-- ==== Sys2Proof/Word.lean ====
section
/-! DEFINITION. Words of the part: octets, stamps, the 8-octet page (R154) and the 16-octet cell (R165), and fixed
tables with their two plain operations. -/

namespace Sys2Proof

/-- An octet: 8 bits. -/
abbrev Byte := BitVec 8

/-- A field of two octets. -/
abbrev Half := BitVec 16

/-- A Timebase value: 32 bits (R38). -/
abbrev Stamp := BitVec 32

/-- A 16-bit counter (00, "Counters"). -/
abbrev Counter := BitVec 16

/-- A page of a table record: 8 octets numbered 0 to 7 (R154). The data octets of a request and of a response have the
same shape. -/
structure Page where
  o0 : Byte
  o1 : Byte
  o2 : Byte
  o3 : Byte
  o4 : Byte
  o5 : Byte
  o6 : Byte
  o7 : Byte
  deriving DecidableEq, Repr

/-- The page of zeros. -/
def Page.zero : Page := ⟨0, 0, 0, 0, 0, 0, 0, 0⟩

/-- A cell: 16 octets, octet 0 the type and octet 15 the CRC-8 (section 11.8). -/
structure Cell where
  o0 : Byte
  o1 : Byte
  o2 : Byte
  o3 : Byte
  o4 : Byte
  o5 : Byte
  o6 : Byte
  o7 : Byte
  o8 : Byte
  o9 : Byte
  o10 : Byte
  o11 : Byte
  o12 : Byte
  o13 : Byte
  o14 : Byte
  o15 : Byte
  deriving DecidableEq, Repr

/-- A table of n like things, indexed 0..n-1. -/
abbrev Tab (α : Type) (n : Nat) := Vector α n

/-- The table whose every entry is `x`. -/
def Tab.all {α : Type} (n : Nat) (x : α) : Tab α n := ⟨⟨List.replicate n x⟩, by simp⟩

/-- Entry `i`. -/
def Tab.nth {α : Type} {n : Nat} (t : Tab α n) (i : Fin n) : α := t.toList[i.val]'(by simp)

/-- The table with entry `i` replaced. -/
def Tab.put {α : Type} {n : Nat} (t : Tab α n) (i : Fin n) (x : α) : Tab α n :=
  ⟨⟨t.toList.set i.val x⟩, by simp⟩

/-- The table with entry `i` changed by `f`. -/
def Tab.upd {α : Type} {n : Nat} (t : Tab α n) (i : Fin n) (f : α → α) : Tab α n := Tab.put t i (f (Tab.nth t i))

/-- The table with every entry changed by `f`. -/
def Tab.each {α : Type} {n : Nat} (t : Tab α n) (f : α → α) : Tab α n := ⟨⟨t.toList.map f⟩, by simp⟩

/-- The list with every entry changed by `f`, which is also given the entry's number, counted from `i`. -/
def mapFrom {α : Type} (f : Nat → α → α) (i : Nat) : List α → List α
  | [] => []
  | x :: rest => f i x :: mapFrom f (i + 1) rest

theorem mapFrom_eq {α : Type} (f : Nat → α → α) (i : Nat) (xs : List α) :
    mapFrom f i xs = xs.mapIdx fun j x => f (i + j) x := by
  induction xs generalizing i with
  | nil => rfl
  | cons x rest ih => simp [mapFrom, ih, Nat.add_comm, Nat.add_left_comm]

/-- The table with every entry changed by `f`, which is also given the entry's number. -/
def Tab.eachIdx {α : Type} {n : Nat} (t : Tab α n) (f : Nat → α → α) : Tab α n :=
  ⟨⟨mapFrom f 0 t.toList⟩, by simp [mapFrom_eq]⟩

end Sys2Proof
end

