-- ==== Sys2Proof/Syntax.lean ====
section
/-! DEFINITION. The commands: one constructor for each row of spec/opcode_table.json. The part fetches nothing; a command
is an event at the part or a cell that a receiver has taken, with the fields the spec gives it. -/

namespace Sys2Proof

/-- One of the ten links: S0..S3 or C0..C5. -/
inductive LinkId where
  | source (n : Fin 4)
  | consumer (n : Fin 6)
  deriving DecidableEq, Repr

/-- The kind of an event. -/
inductive Kind where
  | pulse
  | level
  | value
  deriving DecidableEq, Repr

/-- A steering bank (R24). -/
inductive Bank where
  | a
  | b
  deriving DecidableEq, Repr

/-- A tag: a record index and a generation (R3). -/
structure Tag where
  index : Fin 512
  generation : Fin 8
  deriving DecidableEq, Repr

/-- The commands. A request carries its consumer `c`, its sequence number `seq` and the fields its op reads (R149). -/
inductive Instr where
  /-- POR, R174. -/
  | por
  /-- RESET_RELEASE, R174. -/
  | resetRelease
  /-- SIGNAL_PRESENT, R164. -/
  | signalPresent (l : LinkId)
  /-- LOSS_OF_SIGNAL, R164. -/
  | lossOfSignal (l : LinkId)
  /-- GOOD_CELL_ALIGNING, R165. -/
  | goodCellAligning (l : LinkId)
  /-- BAD_CELL, R165. -/
  | badCell (l : LinkId)
  /-- MALFORMED_CELL, R167. -/
  | malformedCell (l : LinkId)
  /-- IDLE, R168. -/
  | idle (l : LinkId)
  /-- EVENT on source link `n`, R27. -/
  | event (n : Fin 4) (module : Fin 16) (channel : Fin 64) (kind : Kind) (datum : Half)
  /-- ACK with its tags in cell order, R120. -/
  | ack (c : Fin 6) (tags : List Tag)
  /-- NACK with reason BUSY, R123. -/
  | nackBusy (c : Fin 6) (tag : Tag)
  /-- NACK with reason REJECT, R124. -/
  | nackReject (c : Fin 6) (tag : Tag)
  /-- LOAD, R90. -/
  | load (c : Fin 6) (level : Fin 16)
  /-- EXPIRY of record `r`, R126. -/
  | expiry (r : Fin 512)
  /-- GRANT: one decision of the Dispatcher, R115. -/
  | grant
  /-- CELL_SLOT: a cell slot of link `l` begins, R98 and R50. -/
  | cellSlot (l : LinkId)
  /-- SEND_COMPLETION: the last octet of a DELIVER of consumer `c` is sent, R99. -/
  | sendCompletion (c : Fin 6)
  /-- LEASE_TIMER_EXPIRY, R152. -/
  | leaseTimerExpiry
  /-- BAD_OP: a REQUEST whose op names no operation, R149. -/
  | badOp (c : Fin 6) (seq : Byte) (op : Byte)
  /-- CLAIM, R150. -/
  | claim (c : Fin 6) (seq : Byte)
  /-- RELEASE, R151. -/
  | release (c : Fin 6) (seq : Byte)
  /-- READ, R154. -/
  | read (c : Fin 6) (seq : Byte) (table : Byte) (index : Half) (page : Byte)
  /-- WRITE naming a table that is unknown or read-only, R155. -/
  | write (c : Fin 6) (seq : Byte) (table : Byte) (index : Half) (page : Byte) (image : Page)
  /-- WRITE of DEVICE, R156. -/
  | writeDevice (c : Fin 6) (seq : Byte) (index : Half) (page : Byte) (image : Page)
  /-- WRITE of STEERING_A or STEERING_B, R31. -/
  | writeSteering (c : Fin 6) (seq : Byte) (bank : Bank) (index : Half) (page : Byte) (image : Page)
  /-- WRITE of CLASS, R78. -/
  | writeClass (c : Fin 6) (seq : Byte) (index : Half) (page : Byte) (image : Page)
  /-- WRITE of CONSUMER, R100. -/
  | writeConsumer (c : Fin 6) (seq : Byte) (index : Half) (page : Byte) (image : Page)
  /-- SWAP, R29. -/
  | swap (c : Fin 6) (seq : Byte)
  /-- CLASS_ENABLE, R71. -/
  | classEnable (c : Fin 6) (seq : Byte) (index : Half)
  /-- CLASS_DISABLE with its purge-flag octet, R72. -/
  | classDisable (c : Fin 6) (seq : Byte) (index : Half) (flag : Byte)
  /-- CONSUMER_ENABLE, R88. -/
  | consumerEnable (c : Fin 6) (seq : Byte) (index : Half)
  /-- CONSUMER_DISABLE, R94. -/
  | consumerDisable (c : Fin 6) (seq : Byte) (index : Half)
  /-- SET_TIME, R40. -/
  | setTime (c : Fin 6) (seq : Byte) (value : Stamp)
  /-- TAKE_LOG, R139. -/
  | takeLog (c : Fin 6) (seq : Byte) (index : Half) (page : Byte)
  /-- CLEAR_COUNTS, R158. -/
  | clearCounts (c : Fin 6) (seq : Byte)
  /-- FREEZE, R159. -/
  | freeze (c : Fin 6) (seq : Byte)
  /-- RESTART with its retain-flag octet, R160. -/
  | restart (c : Fin 6) (seq : Byte) (flag : Byte)
  /-- END_OF_RESTART, R162. -/
  | endOfRestart
  /-- TIMEBASE_COUNT: one microsecond passes, R38. -/
  | timebaseCount
  deriving DecidableEq, Repr

end Sys2Proof
end

