-- ==== Sys2Proof/WellFormed.lean ====
section
/-! DEFINITION. Which commands are the ones their rows describe: the field ranges of R167 for an EVENT and an ACK, an op
that names no operation for BAD_OP (R149), and a table that is not writable for the plain WRITE (R155). -/

namespace Sys2Proof

/-- The datum lies in its kind's range (R1, R167). -/
def datumOk (kind : Kind) (datum : Half) : Bool :=
  match kind with
  | .pulse => decide (1 ≤ datum.toNat) && decide (datum.toNat ≤ 255)
  | .level => decide (datum.toNat ≤ 1)
  | .value => true

/-- The tag count of an ACK lies in 1..4 (R120, R167). -/
def tagCountOk (tags : List Tag) : Bool := decide (1 ≤ tags.length) && decide (tags.length ≤ 4)

/-- The op code names one of the operations of R149, codes 1..14 (section 11.7). -/
def opNamed (op : Byte) : Bool := decide (1 ≤ op.toNat) && decide (op.toNat ≤ 14)

/-- The table code names a table that some WRITE may change, codes 1..5 (R154, section 11.7). -/
def tableWritable (table : Byte) : Bool := decide (1 ≤ table.toNat) && decide (table.toNat ≤ 5)

/-- The check of one command. -/
def wellFormed (i : Instr) : Bool :=
  match i with
  | .por => true
  | .resetRelease => true
  | .signalPresent _ => true
  | .lossOfSignal _ => true
  | .goodCellAligning _ => true
  | .badCell _ => true
  | .malformedCell _ => true
  | .idle _ => true
  | .event _ _ _ kind datum => datumOk kind datum
  | .ack _ tags => tagCountOk tags
  | .nackBusy _ _ => true
  | .nackReject _ _ => true
  | .load _ _ => true
  | .expiry _ => true
  | .grant => true
  | .cellSlot _ => true
  | .sendCompletion _ => true
  | .leaseTimerExpiry => true
  | .badOp _ _ op => !opNamed op
  | .claim _ _ => true
  | .release _ _ => true
  | .read _ _ _ _ _ => true
  | .write _ _ table _ _ _ => !tableWritable table
  | .writeDevice _ _ _ _ _ => true
  | .writeSteering _ _ _ _ _ _ => true
  | .writeClass _ _ _ _ _ => true
  | .writeConsumer _ _ _ _ _ => true
  | .swap _ _ => true
  | .classEnable _ _ _ => true
  | .classDisable _ _ _ _ => true
  | .consumerEnable _ _ _ => true
  | .consumerDisable _ _ _ => true
  | .setTime _ _ _ => true
  | .takeLog _ _ _ _ => true
  | .clearCounts _ _ => true
  | .freeze _ _ => true
  | .restart _ _ _ => true
  | .endOfRestart => true
  | .timebaseCount => true

end Sys2Proof
end

