-- ==== Sys2Proof/Decode.lean ====
section
/-! DEFINITION. From bits to commands. No row of spec/opcode_table.json gives bits, so `decodeTableWord` answers none. What
the part does decode is the 16 octets of a received cell: the CRC-8 (R166), the malformation tests (R167), the codes and
layouts (R172, sections 11.7 and 11.8). `decodeCell` says which command a cell is, `encodeCell` writes a command's cell. -/

namespace Sys2Proof

/-- The command that a word of the opcode table spells. The table gives no row any bits. -/
def decodeTableWord (_nbits _w : Nat) : Option Instr := none

/-- A field of two octets, most significant first (R172). -/
def be16 (hi lo : Byte) : Half := hi ++ lo

/-- A field of four octets, most significant first (R172). -/
def be32 (a b c d : Byte) : Stamp := (a ++ b) ++ (c ++ d)

/-- The most significant octet of a two-octet field. -/
def hiOctet (h : Half) : Byte := h.extractLsb' 8 8

/-- The least significant octet of a two-octet field. -/
def loOctet (h : Half) : Byte := h.extractLsb' 0 8

/-- Octet `k` of a four-octet field, 0 the most significant. -/
def stampOctet (s : Stamp) (k : Fin 4) : Byte := s.extractLsb' (8 * (3 - k.val)) 8

/-- One bit of the CRC-8 register: generator x^8 + x^2 + x + 1 (R166). -/
def crcBit (r : Byte) : Byte := if r.msb then (r <<< 1) ^^^ 0x07#8 else r <<< 1

/-- One octet through the CRC-8 register, most significant bit first (R166). -/
def crcOctet (r d : Byte) : Byte := crcBit (crcBit (crcBit (crcBit (crcBit (crcBit (crcBit (crcBit (r ^^^ d))))))))

/-- The CRC-8 of a list of octets: the register starts at 255 and the result is not inverted (R166). -/
def crc8 (octets : List Byte) : Byte := octets.foldl crcOctet 255#8

/-- Octets 0 to 14 of a cell. -/
def Cell.body (c : Cell) : List Byte :=
  [c.o0, c.o1, c.o2, c.o3, c.o4, c.o5, c.o6, c.o7, c.o8, c.o9, c.o10, c.o11, c.o12, c.o13, c.o14]

/-- The receiver's check: octet 15 is the CRC-8 of octets 0 to 14 (R166). -/
def Cell.good (c : Cell) : Bool := crc8 c.body == c.o15

/-- The cell with its CRC-8 in octet 15, as a transmitter sends it (R166). -/
def Cell.withCrc (c : Cell) : Cell := { c with o15 := crc8 c.body }

/-- A cell of a type with every other octet unused, that is 0 (R172). -/
def Cell.blank (type : Byte) : Cell := ⟨type, 0, 0, 0, 0, 0, 0, 0, 0, 0, 0, 0, 0, 0, 0, 0⟩

/-- The code of a kind (section 11.7). -/
def kindCode (k : Kind) : Byte :=
  match k with
  | .pulse => 0x01#8
  | .level => 0x02#8
  | .value => 0x03#8

/-- The kind of a code. -/
def kindOf (b : Byte) : Option Kind :=
  if b = 0x01#8 then some .pulse else if b = 0x02#8 then some .level else if b = 0x03#8 then some .value else none

/-- A tag as one number, generation × 512 + record index (R172). -/
def tagCode (t : Tag) : Half := BitVec.ofNat 16 (t.generation.val * 512 + t.index.val)

/-- The tag of a number; a number above 4095 is none (R167). -/
def tagOf (h : Half) : Option Tag :=
  if hlt : h.toNat < 4096 then
    some ⟨⟨h.toNat % 512, Nat.mod_lt _ (by decide)⟩, ⟨h.toNat / 512, by omega⟩⟩
  else none

/-- The tags of a list of numbers, none if one of them is above 4095. -/
def tagsOf (hs : List Half) : Option (List Tag) :=
  match hs with
  | [] => some []
  | h :: rest =>
    match tagOf h with
    | none => none
    | some t => (tagsOf rest).map (t :: ·)

/-- A number below `n` from an octet. -/
def finOf (n : Nat) (b : Byte) : Option (Fin n) := if h : b.toNat < n then some ⟨b.toNat, h⟩ else none

/-- The EVENT of a cell, or MALFORMED_CELL (R167). -/
def decodeEvent (n : Fin 4) (c : Cell) : Instr :=
  match finOf 16 c.o1, finOf 64 c.o2, kindOf c.o3 with
  | some m, some ch, some k =>
    if datumOk k (be16 c.o4 c.o5) then .event n m ch k (be16 c.o4 c.o5) else .malformedCell (.source n)
  | _, _, _ => .malformedCell (.source n)

/-- The ACK of a cell, or MALFORMED_CELL; tags beyond the tag count are not read (R167). -/
def decodeAck (n : Fin 6) (c : Cell) : Instr :=
  if 1 ≤ c.o1.toNat ∧ c.o1.toNat ≤ 4 then
    match tagsOf ([be16 c.o2 c.o3, be16 c.o4 c.o5, be16 c.o6 c.o7, be16 c.o8 c.o9].take c.o1.toNat) with
    | some ts => .ack n ts
    | none => .malformedCell (.consumer n)
  else .malformedCell (.consumer n)

/-- The NACK of a cell, or MALFORMED_CELL (R167). -/
def decodeNack (n : Fin 6) (c : Cell) : Instr :=
  match tagOf (be16 c.o1 c.o2) with
  | none => .malformedCell (.consumer n)
  | some t =>
    if c.o3 = 0x01#8 then .nackBusy n t
    else if c.o3 = 0x02#8 then .nackReject n t
    else .malformedCell (.consumer n)

/-- The LOAD of a cell, or MALFORMED_CELL (R167). -/
def decodeLoad (n : Fin 6) (c : Cell) : Instr :=
  match finOf 16 c.o1 with
  | some level => .load n level
  | none => .malformedCell (.consumer n)

/-- The data octets of a REQUEST cell, octets 7 to 14 (section 11.8). -/
def requestData (c : Cell) : Page := ⟨c.o7, c.o8, c.o9, c.o10, c.o11, c.o12, c.o13, c.o14⟩

/-- The WRITE of a REQUEST cell, by the table it names (R154, R155). -/
def decodeWrite (n : Fin 6) (c : Cell) : Instr :=
  let index := be16 c.o4 c.o5
  if c.o3 = 0x01#8 then .writeDevice n c.o1 index c.o6 (requestData c)
  else if c.o3 = 0x02#8 then .writeSteering n c.o1 .a index c.o6 (requestData c)
  else if c.o3 = 0x03#8 then .writeSteering n c.o1 .b index c.o6 (requestData c)
  else if c.o3 = 0x04#8 then .writeClass n c.o1 index c.o6 (requestData c)
  else if c.o3 = 0x05#8 then .writeConsumer n c.o1 index c.o6 (requestData c)
  else .write n c.o1 c.o3 index c.o6 (requestData c)

/-- The request of a REQUEST cell, by its op (R149, section 11.7). Fields an op does not use are not read. A REQUEST is
never malformed (R167). -/
def decodeRequest (n : Fin 6) (c : Cell) : Instr :=
  let index := be16 c.o4 c.o5
  if c.o2 = 0x01#8 then .claim n c.o1
  else if c.o2 = 0x02#8 then .release n c.o1
  else if c.o2 = 0x03#8 then .read n c.o1 c.o3 index c.o6
  else if c.o2 = 0x04#8 then decodeWrite n c
  else if c.o2 = 0x05#8 then .swap n c.o1
  else if c.o2 = 0x06#8 then .classEnable n c.o1 index
  else if c.o2 = 0x07#8 then .classDisable n c.o1 index c.o7
  else if c.o2 = 0x08#8 then .consumerEnable n c.o1 index
  else if c.o2 = 0x09#8 then .consumerDisable n c.o1 index
  else if c.o2 = 0x0A#8 then .setTime n c.o1 (be32 c.o7 c.o8 c.o9 c.o10)
  else if c.o2 = 0x0B#8 then .takeLog n c.o1 index c.o6
  else if c.o2 = 0x0C#8 then .clearCounts n c.o1
  else if c.o2 = 0x0D#8 then .freeze n c.o1
  else if c.o2 = 0x0E#8 then .restart n c.o1 c.o7
  else .badOp n c.o1 c.o2

/-- The command that a cell received on a link that is UP makes: BAD_CELL when its CRC-8 fails (R165), MALFORMED_CELL when
its type or a field is out of range (R167), else the command of its type (R168). -/
def decodeCell (l : LinkId) (c : Cell) : Instr :=
  if c.good then
    match l with
    | .source n =>
      if c.o0 = 0x00#8 then .idle l
      else if c.o0 = 0x11#8 then decodeEvent n c
      else .malformedCell l
    | .consumer n =>
      if c.o0 = 0x00#8 then .idle l
      else if c.o0 = 0x31#8 then decodeAck n c
      else if c.o0 = 0x32#8 then decodeNack n c
      else if c.o0 = 0x33#8 then decodeLoad n c
      else if c.o0 = 0x34#8 then decodeRequest n c
      else .malformedCell l
  else .badCell l

/-- The cell of 16 symbols, each given by the octet it decodes to: none when a symbol decodes to no octet (R165). -/
def symbolsCell (x : Tab (Option Byte) 16) : Option Cell :=
  match Tab.nth x 0, Tab.nth x 1, Tab.nth x 2, Tab.nth x 3, Tab.nth x 4, Tab.nth x 5, Tab.nth x 6, Tab.nth x 7, Tab.nth x 8,
    Tab.nth x 9, Tab.nth x 10, Tab.nth x 11, Tab.nth x 12, Tab.nth x 13, Tab.nth x 14, Tab.nth x 15 with
  | some a, some b, some c, some d, some e, some f, some g, some h, some i, some j, some k, some l, some m, some n, some o,
    some p => some ⟨a, b, c, d, e, f, g, h, i, j, k, l, m, n, o, p⟩
  | _, _, _, _, _, _, _, _, _, _, _, _, _, _, _, _ => none

/-- The command that 16 symbols between two cell boundaries make on link `l`: a symbol that decodes to no octet makes the
cell it falls in a bad cell (R165). -/
def decodeSymbols (l : LinkId) (x : Tab (Option Byte) 16) : Instr :=
  match symbolsCell x with
  | some c => decodeCell l c
  | none => .badCell l

/-- The 16 symbols of a cell as it is sent, one symbol for each octet (R165). -/
def Cell.symbols (c : Cell) : Tab (Option Byte) 16 :=
  #v[some c.o0, some c.o1, some c.o2, some c.o3, some c.o4, some c.o5, some c.o6, some c.o7, some c.o8, some c.o9,
    some c.o10, some c.o11, some c.o12, some c.o13, some c.o14, some c.o15]

/-- A REQUEST cell (section 11.8). -/
def requestCell (seq op table : Byte) (index : Half) (page : Byte) (d : Page) : Cell :=
  (⟨0x34#8, seq, op, table, hiOctet index, loOctet index, page, d.o0, d.o1, d.o2, d.o3, d.o4, d.o5, d.o6, d.o7, 0⟩ :
    Cell).withCrc

/-- The number of tag `k` of an ACK, 0 where the cell carries no such tag. -/
def tagField (ts : List Tag) (k : Nat) : Half :=
  match ts[k]? with
  | some t => tagCode t
  | none => 0

/-- The table code of a bank's table (section 11.7). -/
def bankTable (bank : Bank) : Byte :=
  match bank with
  | .a => 0x02#8
  | .b => 0x03#8

/-- The link a command's cell arrives on, and the cell, for the commands that are cells with a layout of their own; unused
fields are 0. A bad and a malformed cell have no one cell, and the other commands are no cells. -/
def encodeCell (i : Instr) : Option (LinkId × Cell) :=
  match i with
  | .idle l => some (l, (Cell.blank 0x00#8).withCrc)
  | .event n m ch k d =>
    some (.source n, { Cell.blank 0x11#8 with
      o1 := BitVec.ofNat 8 m.val, o2 := BitVec.ofNat 8 ch.val, o3 := kindCode k, o4 := hiOctet d,
      o5 := loOctet d }.withCrc)
  | .ack n ts =>
    some (.consumer n, { Cell.blank 0x31#8 with
      o1 := BitVec.ofNat 8 ts.length
      o2 := hiOctet (tagField ts 0), o3 := loOctet (tagField ts 0)
      o4 := hiOctet (tagField ts 1), o5 := loOctet (tagField ts 1)
      o6 := hiOctet (tagField ts 2), o7 := loOctet (tagField ts 2)
      o8 := hiOctet (tagField ts 3), o9 := loOctet (tagField ts 3) }.withCrc)
  | .nackBusy n t =>
    some (.consumer n, { Cell.blank 0x32#8 with
      o1 := hiOctet (tagCode t), o2 := loOctet (tagCode t), o3 := 0x01#8 }.withCrc)
  | .nackReject n t =>
    some (.consumer n, { Cell.blank 0x32#8 with
      o1 := hiOctet (tagCode t), o2 := loOctet (tagCode t), o3 := 0x02#8 }.withCrc)
  | .load n level => some (.consumer n, { Cell.blank 0x33#8 with o1 := BitVec.ofNat 8 level.val }.withCrc)
  | .badOp n seq op => some (.consumer n, requestCell seq op 0 0 0 Page.zero)
  | .claim n seq => some (.consumer n, requestCell seq 0x01#8 0 0 0 Page.zero)
  | .release n seq => some (.consumer n, requestCell seq 0x02#8 0 0 0 Page.zero)
  | .read n seq table index page => some (.consumer n, requestCell seq 0x03#8 table index page Page.zero)
  | .write n seq table index page image => some (.consumer n, requestCell seq 0x04#8 table index page image)
  | .writeDevice n seq index page image => some (.consumer n, requestCell seq 0x04#8 0x01#8 index page image)
  | .writeSteering n seq bank index page image =>
    some (.consumer n, requestCell seq 0x04#8 (bankTable bank) index page image)
  | .writeClass n seq index page image => some (.consumer n, requestCell seq 0x04#8 0x04#8 index page image)
  | .writeConsumer n seq index page image => some (.consumer n, requestCell seq 0x04#8 0x05#8 index page image)
  | .swap n seq => some (.consumer n, requestCell seq 0x05#8 0 0 0 Page.zero)
  | .classEnable n seq index => some (.consumer n, requestCell seq 0x06#8 0 index 0 Page.zero)
  | .classDisable n seq index flag =>
    some (.consumer n, requestCell seq 0x07#8 0 index 0 { Page.zero with o0 := flag })
  | .consumerEnable n seq index => some (.consumer n, requestCell seq 0x08#8 0 index 0 Page.zero)
  | .consumerDisable n seq index => some (.consumer n, requestCell seq 0x09#8 0 index 0 Page.zero)
  | .setTime n seq value =>
    some (.consumer n, requestCell seq 0x0A#8 0 0 0 { Page.zero with
      o0 := stampOctet value 0, o1 := stampOctet value 1, o2 := stampOctet value 2, o3 := stampOctet value 3 })
  | .takeLog n seq index page => some (.consumer n, requestCell seq 0x0B#8 0 index page Page.zero)
  | .clearCounts n seq => some (.consumer n, requestCell seq 0x0C#8 0 0 0 Page.zero)
  | .freeze n seq => some (.consumer n, requestCell seq 0x0D#8 0 0 0 Page.zero)
  | .restart n seq flag => some (.consumer n, requestCell seq 0x0E#8 0 0 0 { Page.zero with o0 := flag })
  | .por => none
  | .resetRelease => none
  | .signalPresent _ => none
  | .lossOfSignal _ => none
  | .goodCellAligning _ => none
  | .badCell _ => none
  | .malformedCell _ => none
  | .expiry _ => none
  | .grant => none
  | .cellSlot _ => none
  | .sendCompletion _ => none
  | .leaseTimerExpiry => none
  | .endOfRestart => none
  | .timebaseCount => none

end Sys2Proof
end

