-- ==== Sys2Proof/Config.lean ====
section
/-! DEFINITION. What an implementation fixes: the sizes the spec gives, and the one free value. -/

namespace Sys2Proof.Config

/-- Entries the Abandon Log holds at most (R138). -/
def logCapacity : Nat := 16

/-- Microseconds in one unit of a class's ack deadline (R68). -/
def ackUnit : Nat := 100

/-- Microseconds in one unit of the lease period (R156). -/
def leaseUnit : Nat := 10000

/-- FREE VALUE (log 7). The symbol place at which a receiver entering ALIGNING begins its search. R165 gives the search
and not its start. It is applied to the number of free values drawn so far, so each search may begin anywhere. -/
opaque searchStart : Nat → Fin 16

end Sys2Proof.Config
end

