-- ==== Sys2Proof/Machine/State.lean ====
section
/-! DEFINITION. The state of the part, block by block as 00 ("The part at a glance") lists them, its values at POR, and
why a step can stop. -/

namespace Sys2Proof.Machine

/-- The number of an event record (R1). -/
abbrev RecIdx := Fin 512

/-- The number of a class (R68). -/
abbrev ClassIdx := Fin 32

/-- The number of a consumer (R85). -/
abbrev ConsumerIdx := Fin 6

/-- A set of consumers as a mask, bit n for consumer n (R172). -/
abbrev ConsumerSet := BitVec 6

/-- A set of classes as a mask, bit n for class n (R172). -/
abbrev ClassSet := BitVec 32

/-- A level of a two-state channel, 0 or 1. -/
abbrev Level := Fin 2

/-- A source address (R1). -/
structure Addr where
  link : Fin 4
  module : Fin 16
  channel : Fin 64
  deriving DecidableEq, Repr

/-- Where a record stands, with the fields that R1 gives to that state alone: the class of a record that is not FREE, the
current consumer of a dispatched one, and the microseconds that remain to the deadline of an AWAITING one. -/
inductive Place where
  | free
  | pending (cls : ClassIdx)
  | queued (cls : ClassIdx) (cur : ConsumerIdx)
  | awaiting (cls : ClassIdx) (cur : ConsumerIdx) (deadline : Nat)
  deriving DecidableEq, Repr

/-- An event record (R1). -/
structure EventRecord where
  place : Place
  generation : Fin 8
  addr : Addr
  kind : Kind
  datum : Half
  stamp : Stamp
  delivery : BitVec 4
  failed : BitVec 3
  superseded : Byte
  tried : ConsumerSet
  neverDispatched : Bool
  deriving DecidableEq, Repr

/-- A DELIVER cell, built from the record as it stands at the grant (R10). -/
structure Deliver where
  tag : Tag
  delivery : BitVec 4
  cls : ClassIdx
  addr : Addr
  kind : Kind
  datum : Half
  stamp : Stamp
  superseded : Byte
  deriving DecidableEq, Repr

/-- The status of a response (R149). -/
inductive Status where
  | ok
  | held
  | notHolder
  | badOp
  | badTable
  | badIndex
  | badValue
  | readOnly
  | inUse
  | bankActive
  | frozen
  | empty
  deriving DecidableEq, Repr

/-- A RESPONSE (R149). A replay record holds the same three things (R148). -/
structure Response where
  seq : Byte
  status : Status
  data : Page
  deriving DecidableEq, Repr

/-- A NOTICE (R142). -/
structure Notice where
  abandon : Bool
  occupancy : Nat
  suspects : ConsumerSet
  idle : ClassSet
  hold : Bool
  deriving DecidableEq, Repr

/-- A cell that a transmitter sends (R50, R98). -/
inductive OutCell where
  | idle
  | hold
  | go
  | deliver (d : Deliver)
  | response (r : Response)
  | notice (n : Notice)
  deriving DecidableEq, Repr

/-- What stands on a transmitter's wire (R98, R170). -/
inductive Wire where
  /-- no cell: a quiet transmitter (R174), or the rest of a slot whose cell has ended or was cut short -/
  | quiet
  /-- a cell being sent -/
  | sending (c : OutCell)
  /-- a DELIVER being finished whose record has been withdrawn: its completion is not reported (R11) -/
  | finishing (d : Deliver)
  deriving DecidableEq, Repr

/-- The state of a link (R164). -/
inductive LinkState where
  | down
  | aligning
  | up
  deriving DecidableEq, Repr

/-- A link (R164, R165, R171). -/
structure Link where
  state : LinkState
  signal : Bool
  alignCount : Fin 16
  badRun : Fin 4
  boundary : Fin 16
  wire : Wire
  badCells : Counter
  malformed : Counter
  discarded : Counter
  deriving DecidableEq, Repr

/-- A steering entry (R23). -/
structure SteerEntry where
  valid : Bool
  links : BitVec 4
  moduleLow : Fin 16
  moduleHigh : Fin 16
  channelLow : Fin 64
  channelHigh : Fin 64
  kinds : BitVec 3
  cls : ClassIdx
  deriving DecidableEq, Repr

/-- The source hold state (R49). -/
inductive HoldState where
  | released
  | asserted
  deriving DecidableEq, Repr

/-- A Level Image entry; a confirmed level of none is UNKNOWN (R56). -/
structure LevelEntry where
  confirmed : Option Level
  candidate : Option Level
  count : Fin 4
  pendingRec : Option RecIdx
  deriving DecidableEq, Repr

/-- How a class chooses among consumers (R112). -/
inductive DispatchMode where
  | balanced
  | primary
  deriving DecidableEq, Repr

/-- Whether a class's deliveries may overlap (R107). -/
inductive ClassOrder where
  | free
  | serial
  deriving DecidableEq, Repr

/-- What a full class does with a new event (R43). -/
inductive OverflowPolicy where
  | refuse
  | displace
  deriving DecidableEq, Repr

/-- The ten configuration fields of a class (R68). -/
structure ClassConfig where
  group : ConsumerSet
  mode : DispatchMode
  order : ClassOrder
  priority : Fin 4
  ackDeadline : Fin 256
  attemptLimit : Fin 8
  confirmCount : Fin 5
  coalesce : Bool
  policy : OverflowPolicy
  pendingLimit : Fin 513
  deriving DecidableEq, Repr

/-- The state of a class (R69). -/
inductive ClassState where
  | disabled
  | enabled
  | draining
  deriving DecidableEq, Repr

/-- A class record (R68, R69). -/
structure ClassRecord where
  config : ClassConfig
  state : ClassState
  purge : Bool
  pendingCount : Nat
  dispatchedCount : Nat
  accepted : Counter
  refused : Counter
  coalesced : Counter
  completed : Counter
  abandoned : Counter
  deriving DecidableEq, Repr

/-- The state of a consumer (R86). -/
inductive ConsumerState where
  | off
  | detached
  | waiting
  | active
  | suspect
  deriving DecidableEq, Repr

/-- A Consumer Port with its consumer record (R85 to R87, R97, R102, R148). -/
structure Port where
  window : Fin 9
  threshold : Fin 16
  state : ConsumerState
  load : Fin 16
  consecutive : BitVec 4
  dispatched : Nat
  tx : List Deliver
  waitingAck : List RecIdx
  responseSlot : Option Response
  noticeSlot : Option Notice
  replay : Option Response
  deliversSent : Counter
  acksTaken : Counter
  busyNacks : Counter
  rejects : Counter
  expiries : Counter
  staleTags : Counter
  overruns : Counter
  replays : Counter
  deriving DecidableEq, Repr

/-- Why a record was abandoned (R137). -/
inductive Reason where
  | exhausted
  | rejected
  | purged
  | displaced
  deriving DecidableEq, Repr

/-- An Abandon Log entry (R137). -/
structure LogEntry where
  number : Byte
  cls : ClassIdx
  addr : Addr
  kind : Kind
  datum : Half
  arrival : Stamp
  abandonStamp : Stamp
  reason : Reason
  failed : BitVec 3
  delivery : BitVec 4
  superseded : Byte
  deriving DecidableEq, Repr

/-- The pending notice set (R141). -/
structure NoticeSet where
  abandon : Bool
  suspects : ConsumerSet
  idle : ClassSet
  hold : Bool
  deriving DecidableEq, Repr

/-- A lease that is HELD, with the microseconds that remain on its timer (R146, R150, R152). -/
structure Lease where
  holder : ConsumerIdx
  remaining : Nat
  deriving DecidableEq, Repr

/-- The DEVICE record (R156). -/
structure Device where
  leasePeriod : Fin 256
  low : Fin 256
  high : Fin 512
  deriving DecidableEq, Repr

/-- A soft restart in progress: what its end needs (R162). -/
structure RestartJob where
  requester : ConsumerIdx
  seq : Byte
  retain : Bool
  deriving DecidableEq, Repr

/-- A cell that a source link's receiver has passed on, with its arrival stamp (R39). -/
structure Arrival where
  addr : Addr
  kind : Kind
  datum : Half
  stamp : Stamp
  deriving DecidableEq, Repr

/-- The state of the part. `handed` holds, for each source link, the cells that its receiver has passed on and Steering has
not yet taken, oldest first (R65, R168). The last four fields are the model's own: `late` says, for each EVENT to come that
is passed on, whether its cell is left so, and past its end each cell is taken at once (log 22); `turns` says, for each
RESTART to come that is taken, from which links in turn Steering takes the cells left so (log 23); `freeDraws` counts the free
values drawn (log 7); `pending` is the queue of waiting commands (log 1). Every other field holds what R1 to R174 give. -/
structure State where
  timebase : Stamp
  resetAsserted : Bool
  links : Tab Link 10
  malformedTotal : Counter
  bankA : Tab SteerEntry 64
  bankB : Tab SteerEntry 64
  activeBank : Bank
  unmatched : Counter
  lastUnmatched : Option Addr
  hold : HoldState
  handed : Tab (List Arrival) 4
  levels : Tab LevelEntry 4096
  records : Tab EventRecord 512
  freeList : List RecIdx
  queues : Tab (List RecIdx) 32
  classes : Tab ClassRecord 32
  ports : Tab Port 6
  grantOrder : List ConsumerIdx
  pointers : Tab ClassIdx 4
  log : List LogEntry
  overwrites : Byte
  nextEntry : Byte
  notices : NoticeSet
  lease : Option Lease
  frozen : Bool
  device : Device
  restart : Option RestartJob
  restartCount : Counter
  late : List Bool
  turns : List (List (Fin 4))
  freeDraws : Nat
  pending : List Instr
  deriving DecidableEq, Repr

/-- Why a step can fault: never. The spec gives the part no fault that stops it, and exec answers a next state for every
command in every state, so this type has no constructor. -/
inductive Fault where
  deriving DecidableEq, Repr

/-- Why a step can be refused. -/
inductive Refusal where
  /-- Raised by exec for a command that has no meaning yet; no arm raises it. Safe: the machine stops where the part goes
  on. -/
  | notModelled (mnemonic : String)
  deriving DecidableEq, Repr

/-! ## Values at POR -/

/-- Link 0, module 0, channel 0 (R1). -/
def Addr.zero : Addr := ⟨0, 0, 0⟩

/-- A record at POR (R1, R20). -/
def EventRecord.por : EventRecord where
  place := .free
  generation := 0
  addr := Addr.zero
  kind := .pulse
  datum := 0
  stamp := 0
  delivery := 0
  failed := 0
  superseded := 0
  tried := 0
  neverDispatched := false

/-- A link at POR, quiet, with no signal (R164, R171, R174). The signal and the trial boundary are the model's choices
(log 2, log 7). -/
def Link.por : Link where
  state := .down
  signal := false
  alignCount := 0
  badRun := 0
  boundary := 0
  wire := .quiet
  badCells := 0
  malformed := 0
  discarded := 0

/-- A steering entry at POR (R23, R36). -/
def SteerEntry.por : SteerEntry := ⟨false, 0, 0, 0, 0, 0, 0, 0⟩

/-- A Level Image entry at POR (R56, R66). -/
def LevelEntry.por : LevelEntry := ⟨none, none, 0, none⟩

/-- A class configuration at POR (R68, R83). -/
def ClassConfig.por : ClassConfig where
  group := 0
  mode := .balanced
  order := .free
  priority := 3
  ackDeadline := 10
  attemptLimit := 3
  confirmCount := 1
  coalesce := false
  policy := .refuse
  pendingLimit := 64

/-- A class record at POR (R69, R83). -/
def ClassRecord.por : ClassRecord where
  config := ClassConfig.por
  state := .disabled
  purge := false
  pendingCount := 0
  dispatchedCount := 0
  accepted := 0
  refused := 0
  coalesced := 0
  completed := 0
  abandoned := 0

/-- A Consumer Port at POR (R103). -/
def Port.por : Port where
  window := 4
  threshold := 3
  state := .off
  load := 15
  consecutive := 0
  dispatched := 0
  tx := []
  waitingAck := []
  responseSlot := none
  noticeSlot := none
  replay := none
  deliversSent := 0
  acksTaken := 0
  busyNacks := 0
  rejects := 0
  expiries := 0
  staleTags := 0
  overruns := 0
  replays := 0

/-- The empty notice set (R145). -/
def NoticeSet.none : NoticeSet := ⟨false, 0, 0, false⟩

/-- The DEVICE record at POR (R156). -/
def Device.por : Device := ⟨50, 32, 64⟩

/-- The numbers 0..511 in ascending order (R4). -/
def allRecords : List RecIdx := List.finRange 512

/-- The numbers 0..5 in ascending order (R118). -/
def allConsumers : List ConsumerIdx := [0, 1, 2, 3, 4, 5]

/-- The part inside POR: every block at its POR values, every link DOWN, every transmitter quiet (R174). -/
def State.inPor : State where
  timebase := 0
  resetAsserted := true
  links := Tab.all 10 Link.por
  malformedTotal := 0
  bankA := Tab.all 64 SteerEntry.por
  bankB := Tab.all 64 SteerEntry.por
  activeBank := .a
  unmatched := 0
  lastUnmatched := none
  hold := .released
  handed := Tab.all 4 []
  levels := Tab.all 4096 LevelEntry.por
  records := Tab.all 512 EventRecord.por
  freeList := allRecords
  queues := Tab.all 32 []
  classes := Tab.all 32 ClassRecord.por
  ports := Tab.all 6 Port.por
  grantOrder := allConsumers
  pointers := Tab.all 4 0
  log := []
  overwrites := 0
  nextEntry := 0
  notices := NoticeSet.none
  lease := none
  frozen := false
  device := Device.por
  restart := none
  restartCount := 0
  late := []
  turns := []
  freeDraws := 0
  pending := []

/-- The part right after reset: POR over and the reset input released, with every transmitter sending IDLE (R174). -/
def State.reset : State :=
  { State.inPor with
    resetAsserted := false
    links := Tab.all 10 { Link.por with wire := .sending .idle } }

end Sys2Proof.Machine
end

