-- ==== Sys2Proof/Machine/Flags.lean ====
section
/-! DEFINITION. Reading and changing one part of the state, and what every counter, set and flag of the part does: saturating
counters, the notice set and its NOTICE (R141, R142), the hold rule (R49), the drain rule (R76) and the lease timer
(R152). -/

namespace Sys2Proof.Machine

/-! ## Counters and sets -/

/-- A saturating counter of any width rises by one (00, "Counters"). -/
def satUp {w : Nat} (c : BitVec w) : BitVec w := if c = BitVec.allOnes w then c else c + 1

/-- Member `n` is in the set carried as a mask (R172). -/
def inSet {w : Nat} (m : BitVec w) (n : Nat) : Bool := m.getLsbD n

/-- The set with member `n`. -/
def addTo {w : Nat} (m : BitVec w) (n : Nat) : BitVec w := m ||| BitVec.twoPow w n

/-! ## The parts of the state -/

/-- The number of a link's LINK_COUNTS record, S0..S3 0..3 and C0..C5 4..9 (R171). -/
def linkIndex (l : LinkId) : Fin 10 :=
  match l with
  | .source n => ⟨n.val, by omega⟩
  | .consumer n => ⟨n.val + 4, by omega⟩

/-- The number of a channel's Level Image entry (R56), which is also the carried form of its source address (R172). -/
def levelIndex (a : Addr) : Fin 4096 := ⟨a.link.val * 1024 + a.module.val * 64 + a.channel.val, by omega⟩

/-- Link `l`. -/
def State.link (s : State) (l : LinkId) : Link := Tab.nth s.links (linkIndex l)
/-- Record `r`. -/
def State.rcd (s : State) (r : RecIdx) : EventRecord := Tab.nth s.records r
/-- Class record `k`. -/
def State.cls (s : State) (k : ClassIdx) : ClassRecord := Tab.nth s.classes k
/-- The pending queue of class `k`. -/
def State.queue (s : State) (k : ClassIdx) : List RecIdx := Tab.nth s.queues k
/-- Consumer Port `c`. -/
def State.port (s : State) (c : ConsumerIdx) : Port := Tab.nth s.ports c
/-- The Level Image entry of a channel. -/
def State.level (s : State) (a : Addr) : LevelEntry := Tab.nth s.levels (levelIndex a)
/-- The active steering bank (R24). -/
def State.steering (s : State) : Tab SteerEntry 64 :=
  match s.activeBank with
  | .a => s.bankA
  | .b => s.bankB
/-- Admission's view of the number of FREE records, the length of the free list (R2, R47). -/
def State.freeCount (s : State) : Nat := s.freeList.length
/-- The holding count of a class (R69). -/
def State.holding (s : State) (k : ClassIdx) : Nat := (s.cls k).pendingCount + (s.cls k).dispatchedCount
/-- The class is DRAINING under a purge (R69). -/
def State.purgeDraining (s : State) (k : ClassIdx) : Bool := (s.cls k).state == .draining && (s.cls k).purge
/-- Consumer `c` holds the lease (R150). -/
def State.holds (s : State) (c : ConsumerIdx) : Bool :=
  match s.lease with
  | none => false
  | some l => l.holder == c

/-- Change link `l`. -/
def State.modLink (s : State) (l : LinkId) (f : Link → Link) : State := { s with links := Tab.upd s.links (linkIndex l) f }
/-- Change record `r`. -/
def State.modRec (s : State) (r : RecIdx) (f : EventRecord → EventRecord) : State :=
  { s with records := Tab.upd s.records r f }
/-- Change class record `k`. -/
def State.modClass (s : State) (k : ClassIdx) (f : ClassRecord → ClassRecord) : State :=
  { s with classes := Tab.upd s.classes k f }
/-- Change the pending queue of class `k`. -/
def State.modQueue (s : State) (k : ClassIdx) (f : List RecIdx → List RecIdx) : State :=
  { s with queues := Tab.upd s.queues k f }
/-- Change Consumer Port `c`. -/
def State.modPort (s : State) (c : ConsumerIdx) (f : Port → Port) : State := { s with ports := Tab.upd s.ports c f }
/-- Change the Level Image entry of a channel. -/
def State.modLevel (s : State) (a : Addr) (f : LevelEntry → LevelEntry) : State :=
  { s with levels := Tab.upd s.levels (levelIndex a) f }

/-! ## Notices -/

/-- Raise the abandon kind (R141). -/
def raiseAbandon (s : State) : State := { s with notices := { s.notices with abandon := true } }
/-- Raise SUSPECT for a consumer (R91, R141). -/
def raiseSuspect (c : ConsumerIdx) (s : State) : State :=
  { s with notices := { s.notices with suspects := addTo s.notices.suspects c.val } }
/-- Raise CLASS_IDLE for a class (R76, R141). -/
def raiseIdle (k : ClassIdx) (s : State) : State :=
  { s with notices := { s.notices with idle := addTo s.notices.idle k.val } }
/-- Raise the hold kind (R51, R141). -/
def raiseHold (s : State) : State := { s with notices := { s.notices with hold := true } }

/-- The NOTICE built from the set as it stands, with the log occupancy at that moment (R142). -/
def noticeOf (s : State) : Notice :=
  ⟨s.notices.abandon, s.log.length, s.notices.suspects, s.notices.idle, s.notices.hold⟩

/-- The Notice Unit's test and placement (R142): with a set that is not empty, a holder, and its notice slot empty, the
NOTICE is built into that slot and the set is emptied. -/
def placeNotice (s : State) : State :=
  if s.notices = NoticeSet.none then s
  else
    match s.lease with
    | none => s
    | some l =>
      match (s.port l.holder).noticeSlot with
      | some _ => s
      | none =>
        { s.modPort l.holder (fun p => { p with noticeSlot := some (noticeOf s) }) with notices := NoticeSet.none }

/-! ## Source hold -/

/-- The hold rule, applied at a change of the free count, of the watermarks, and at the end of a restart (R49). The
assertion on a low free count raises the hold kind (R51). -/
def applyHold (s : State) : State :=
  match s.hold with
  | .released =>
    if s.freeCount < s.device.low.val then raiseHold { s with hold := .asserted } else s
  | .asserted =>
    if s.device.high.val ≤ s.freeCount ∧ s.restart = none then { s with hold := .released } else s

/-! ## The drain rule -/

/-- A DRAINING class whose holding count is 0 becomes DISABLED with its purge flag no, and CLASS_IDLE is raised (R76). -/
def drainCheck (k : ClassIdx) (s : State) : State :=
  if (s.cls k).state = .draining ∧ s.holding k = 0 then
    raiseIdle k (s.modClass k fun c => { c with state := .disabled, purge := false })
  else s

/-! ## The lease timer -/

/-- Microseconds of the DEVICE record's lease period (R156). -/
def leaseSpan (s : State) : Nat := s.device.leasePeriod.val * Config.leaseUnit

/-- Restart the lease timer if consumer `c` holds the lease (R152). -/
def renewLease (c : ConsumerIdx) (s : State) : State :=
  if s.holds c then { s with lease := some ⟨c, leaseSpan s⟩ } else s

end Sys2Proof.Machine
end

