-- ==== Sys2Proof/Machine/Ops.lean ====
section
/-! DEFINITION. The claims on the Event Store (chapter 1) with what each does at the Class Table, the Consumer Port, the
Level Image, the Abandon Log and Admission, each taken whole. -/

namespace Sys2Proof.Machine

/-- The class of a record that is not FREE (R1). -/
def Place.cls (p : Place) : Option ClassIdx :=
  match p with
  | .free => none
  | .pending k => some k
  | .queued k _ => some k
  | .awaiting k _ _ => some k

/-- The current consumer of a dispatched record (R1). -/
def Place.cur (p : Place) : Option ConsumerIdx :=
  match p with
  | .free => none
  | .pending _ => none
  | .queued _ c => some c
  | .awaiting _ c _ => some c

/-- The class of a record that is dispatched to consumer `c`. -/
def Place.heldBy (p : Place) (c : ConsumerIdx) : Option ClassIdx :=
  match p with
  | .free => none
  | .pending _ => none
  | .queued k d => if d = c then some k else none
  | .awaiting k d _ => if d = c then some k else none

/-! ## Lists and wires -/

/-- Take a record out of a list of records. -/
def without (r : RecIdx) (q : List RecIdx) : List RecIdx := q.filter (fun x => x != r)

/-- Take a record's DELIVER out of a transmit queue. -/
def withoutDeliver (r : RecIdx) (q : List Deliver) : List Deliver := q.filter (fun d => d.tag.index != r)

/-- A DELIVER on the wire whose record is withdrawn is finished without a report (R11, R98). -/
def Wire.withdraw (w : Wire) (r : RecIdx) : Wire :=
  match w with
  | .quiet => .quiet
  | .finishing d => .finishing d
  | .sending c =>
    match c with
    | .deliver d => if d.tag.index = r then .finishing d else .sending (.deliver d)
    | .idle => .sending .idle
    | .hold => .sending .hold
    | .go => .sending .go
    | .response x => .sending (.response x)
    | .notice x => .sending (.notice x)

/-- Take a dispatched record out of its consumer's lists, withdrawing an unsent DELIVER; the consumer's dispatched count
falls by one (R5, R12). -/
def dropDispatch (c : ConsumerIdx) (r : RecIdx) (s : State) : State :=
  (s.modPort c fun p =>
    { p with tx := withoutDeliver r p.tx, waitingAck := without r p.waitingAck, dispatched := p.dispatched - 1 }).modLink
    (.consumer c) fun l => { l with wire := l.wire.withdraw r }

/-- Clear the pending-record pointer that names a record: the one of the record's own channel (R63). -/
def clearPointer (r : RecIdx) (s : State) : State :=
  s.modLevel (s.rcd r).addr fun e => if e.pendingRec = some r then { e with pendingRec := none } else e

/-! ## Freeing and abandonment -/

/-- A freed record: every field at its POR value but the generation, which advances (R5). -/
def EventRecord.freed (e : EventRecord) : EventRecord := { EventRecord.por with generation := e.generation + 1 }

/-- The record becomes FREE and its index joins the tail of the free list (R5). -/
def joinFreeList (r : RecIdx) (s : State) : State :=
  { s.modRec r EventRecord.freed with freeList := s.freeList ++ [r] }

/-- Free a record: it leaves its collection, the counts of its class and consumer fall, and the drain rule and the hold
rule are applied (R5). -/
def freeRecord (r : RecIdx) (s : State) : State :=
  match (s.rcd r).place with
  | .free => s
  | .pending k =>
    applyHold (drainCheck k (joinFreeList r
      ((s.modQueue k (without r)).modClass k fun c => { c with pendingCount := c.pendingCount - 1 })))
  | .queued k c =>
    applyHold (drainCheck k (joinFreeList r
      ((dropDispatch c r s).modClass k fun x => { x with dispatchedCount := x.dispatchedCount - 1 })))
  | .awaiting k c _ =>
    applyHold (drainCheck k (joinFreeList r
      ((dropDispatch c r s).modClass k fun x => { x with dispatchedCount := x.dispatchedCount - 1 })))

/-- The Abandon Log entry of a record, with the log's next entry number and the Timebase as abandon stamp (R15, R137). -/
def logEntryOf (s : State) (r : RecIdx) (k : ClassIdx) (reason : Reason) : LogEntry where
  number := s.nextEntry
  cls := k
  addr := (s.rcd r).addr
  kind := (s.rcd r).kind
  datum := (s.rcd r).datum
  arrival := (s.rcd r).stamp
  abandonStamp := s.timebase
  reason := reason
  failed := (s.rcd r).failed
  delivery := (s.rcd r).delivery
  superseded := (s.rcd r).superseded

/-- Write an entry at the tail of the Abandon Log; a full log drops its oldest entry and counts the overwrite (R138). -/
def writeEntry (e : LogEntry) (s : State) : State :=
  if s.log.length < Config.logCapacity then
    { s with log := s.log ++ [e], nextEntry := s.nextEntry + 1 }
  else
    { s with log := s.log.tail ++ [e], overwrites := satUp s.overwrites, nextEntry := s.nextEntry + 1 }

/-- What every abandonment does before the record is freed or reused: the log entry, the ABANDON notice, the class's
abandoned counter and the pending-record pointer (R15). -/
def recordAbandon (r : RecIdx) (k : ClassIdx) (reason : Reason) (s : State) : State :=
  clearPointer r ((raiseAbandon (writeEntry (logEntryOf s r k reason) s)).modClass k fun c =>
    { c with abandoned := satUp c.abandoned })

/-- Abandon a record with a reason other than DISPLACED: it is logged and freed (R15). -/
def abandon (r : RecIdx) (reason : Reason) (s : State) : State :=
  match (s.rcd r).place.cls with
  | none => s
  | some k => freeRecord r (recordAbandon r k reason s)

/-- Abandon records one after another, in list order. -/
def abandonAll (rs : List RecIdx) (reason : Reason) (s : State) : State := rs.foldl (fun t r => abandon r reason t) s

/-! ## Settlement -/

/-- The acceptance test: the class of the record if the tag names a record dispatched to `c` under its present
generation (R16). -/
def acceptedClass (s : State) (c : ConsumerIdx) (t : Tag) : Option ClassIdx :=
  if (s.rcd t.index).generation = t.generation then (s.rcd t.index).place.heldBy c else none

/-- A stale tag is counted and changes nothing else (R16). -/
def countStale (c : ConsumerIdx) (s : State) : State := s.modPort c fun p => { p with staleTags := satUp p.staleTags }

/-- A completion claim: the record is freed, the completed and acks-taken counters rise, and the consumer's run of expiries
ends (R14, R121). -/
def complete (c : ConsumerIdx) (k : ClassIdx) (r : RecIdx) (s : State) : State :=
  freeRecord r ((s.modClass k fun x => { x with completed := satUp x.completed }).modPort c fun p =>
    { p with acksTaken := satUp p.acksTaken, consecutive := 0 })

/-- A return claim, its charge already made: the record goes to the head of its class queue and the consumer joins its
tried set (R12). -/
def returnRecord (r : RecIdx) (s : State) : State :=
  match (s.rcd r).place with
  | .free => s
  | .pending _ => s
  | .queued k c =>
    (((dropDispatch c r s).modRec r fun e =>
      { e with place := .pending k, tried := addTo e.tried c.val }).modQueue k (r :: ·)).modClass k fun x =>
      { x with dispatchedCount := x.dispatchedCount - 1, pendingCount := x.pendingCount + 1 }
  | .awaiting k c _ =>
    (((dropDispatch c r s).modRec r fun e =>
      { e with place := .pending k, tried := addTo e.tried c.val }).modQueue k (r :: ·)).modClass k fun x =>
      { x with dispatchedCount := x.dispatchedCount - 1, pendingCount := x.pendingCount + 1 }

/-- Charge a failed attempt: failed attempts rise by one and the consumer joins the tried set (R123, R126). -/
def chargeFailure (c : ConsumerIdx) (r : RecIdx) (s : State) : State :=
  s.modRec r fun e => { e with failed := satUp e.failed, tried := addTo e.tried c.val }

/-- The failure decision on failed attempts already charged: PURGED in a purge-draining class, EXHAUSTED at the attempt
limit, else a return (R125). -/
def failureDecision (k : ClassIdx) (r : RecIdx) (s : State) : State :=
  if s.purgeDraining k then abandon r .purged s
  else if (s.cls k).config.attemptLimit.val ≤ (s.rcd r).failed.toNat then abandon r .exhausted s
  else returnRecord r s

/-- The records dispatched to a consumer in grant order: the awaiting list, then the transmit queue (R11, R13). -/
def grantedTo (s : State) (c : ConsumerIdx) : List RecIdx := (s.port c).waitingAck ++ (s.port c).tx.map (·.tag.index)

/-- The record's class is purge-draining. -/
def purgedHere (s : State) (r : RecIdx) : Bool :=
  match (s.rcd r).place.cls with
  | none => false
  | some k => s.purgeDraining k

/-- The consumer joins the tried set of a record before it is abandoned (R15, R75). -/
def markTried (c : ConsumerIdx) (r : RecIdx) (s : State) : State :=
  s.modRec r fun e => { e with tried := addTo e.tried c.val }

/-- The records of consumer `c` that a return of all abandons with PURGED, in grant order (R13). -/
def purgedOf (s : State) (c : ConsumerIdx) : List RecIdx := (grantedTo s c).filter (purgedHere s)

/-- The records of consumer `c` that a return of all returns to their class queues, in grant order (R13). -/
def returnedOf (s : State) (c : ConsumerIdx) : List RecIdx := (grantedTo s c).filter (fun r => !purgedHere s r)

/-- One claim returns or abandons every record dispatched to a consumer, uncharged (R13, R128). Abandonments are made in
grant order; the returns are made from the last granted to the first, so that the first granted stands at the head. The
port's lists are then empty and its dispatched count 0. -/
def returnAll (c : ConsumerIdx) (s : State) : State :=
  let s1 := (purgedOf s c).foldl (fun t r => abandon r .purged (markTried c r t)) s
  let s2 := (returnedOf s c).foldr (fun r t => returnRecord r t) s1
  s2.modPort c fun p => { p with tx := [], waitingAck := [], dispatched := 0 }

end Sys2Proof.Machine
end

