-- ==== Sys2Proof/Machine/Admission.lean ====
section
/-! DEFINITION. The path of an EVENT: Steering (chapter 2), Level Confirmation (chapter 4) and Admission (chapter 3). -/

namespace Sys2Proof.Machine

/-! ## Steering -/

/-- The bit of a kind in a kind set (R172). -/
def kindBit (k : Kind) : Nat :=
  match k with
  | .pulse => 0
  | .level => 1
  | .value => 2

/-- A steering entry holds a cell (R26). -/
def SteerEntry.holdsCell (e : SteerEntry) (a : Addr) (k : Kind) : Bool :=
  inSet e.links a.link.val && decide (e.moduleLow ≤ a.module) && decide (a.module ≤ e.moduleHigh) &&
    decide (e.channelLow ≤ a.channel) && decide (a.channel ≤ e.channelHigh) && inSet e.kinds (kindBit k)

/-- The class of a cell: that of the lowest-index valid entry that holds it (R27), none when it is unmatched (R28). -/
def classify (bank : Tab SteerEntry 64) (a : Addr) (k : Kind) : Option ClassIdx :=
  (bank.toList.find? fun e => e.valid && e.holdsCell a k).map (·.cls)

/-- An unmatched cell is counted and its address kept (R28). -/
def unmatchedCell (a : Addr) (s : State) : State :=
  { s with unmatched := satUp s.unmatched, lastUnmatched := some a }

/-! ## Level confirmation -/

/-- The confirmation filter: the entry after a report of level `v` under confirm count `n`, and whether the change is
confirmed (R58). -/
def levelFilter (e : LevelEntry) (v : Level) (n : Fin 5) : LevelEntry × Bool :=
  if e.confirmed = some v then ({ e with candidate := none, count := 0 }, false)
  else
    let seen := if e.candidate = some v then e.count.val + 1 else 1
    if h : n.val ≤ seen then ({ e with confirmed := some v, candidate := none, count := 0 }, true)
    else ({ e with candidate := some v, count := ⟨seen, by omega⟩ }, false)

/-- What Level Confirmation answers Admission (R42, R60). -/
inductive Verdict where
  | suppressed
  | coalesced (r : RecIdx)
  | confirmed
  deriving DecidableEq, Repr

/-- Step 1 of a report: a pending record of another class is no longer the channel's (R57). -/
def dropForeignPointer (s : State) (k : ClassIdx) (e : LevelEntry) : LevelEntry :=
  match e.pendingRec with
  | none => e
  | some r => if (s.rcd r).place.cls = some k then e else { e with pendingRec := none }

/-- The verdict on an entry after the filter (R60). -/
def verdictOf (e : LevelEntry) (changed : Bool) : Verdict :=
  if changed then
    match e.pendingRec with
    | some r => .coalesced r
    | none => .confirmed
  else .suppressed

/-- The entry of a channel after a report, and whether the change is confirmed (R57 steps 1 and 2). -/
def reportEntry (s : State) (k : ClassIdx) (a : Addr) (v : Level) : LevelEntry × Bool :=
  levelFilter (dropForeignPointer s k (s.level a)) v (s.cls k).config.confirmCount

/-- A coalesce claim: a PENDING, never-dispatched LEVEL record takes the newer level and stamp (R8). -/
def coalesce (r : RecIdx) (datum : Half) (stamp : Stamp) (s : State) : State :=
  match (s.rcd r).place with
  | .pending _ =>
    if (s.rcd r).neverDispatched ∧ (s.rcd r).kind = .level then
      s.modRec r fun e => { e with datum := datum, stamp := stamp, superseded := satUp e.superseded }
    else s
  | .free => s
  | .queued _ _ => s
  | .awaiting _ _ _ => s

/-! ## Admission -/

/-- A record filled with a new event (R7). -/
def fillRecord (generation : Fin 8) (k : ClassIdx) (x : Arrival) : EventRecord where
  place := .pending k
  generation := generation
  addr := x.addr
  kind := x.kind
  datum := x.datum
  stamp := x.stamp
  delivery := 0
  failed := 0
  superseded := 0
  tried := 0
  neverDispatched := true

/-- The level of a LEVEL cell's datum. -/
def levelOf (datum : Half) : Level := if datum = 0 then 0 else 1

/-- The Level Image entry of an admitted LEVEL record in a class with coalescing on names it (R46, R62). -/
def setPointer (k : ClassIdx) (x : Arrival) (r : RecIdx) (s : State) : State :=
  if x.kind = .level ∧ (s.cls k).config.coalesce then s.modLevel x.addr fun e => { e with pendingRec := some r } else s

/-- A refused cell is counted (R41, R44, R45). -/
def refuse (k : ClassIdx) (s : State) : State := s.modClass k fun c => { c with refused := satUp c.refused }

/-- An allocation claim for the record `r` at the head of the free list, `rest` behind it (R7, R43). -/
def allocate (k : ClassIdx) (x : Arrival) (r : RecIdx) (rest : List RecIdx) (s : State) : State :=
  setPointer k x r (applyHold
    (((({ s with freeList := rest }).modRec r fun e => fillRecord e.generation k x).modQueue k (· ++ [r])).modClass k fun c =>
      { c with pendingCount := c.pendingCount + 1, accepted := satUp c.accepted }))

/-- A displacement claim for the record `r` at the head of the class queue, `rest` behind it (R9, R45). -/
def displace (k : ClassIdx) (x : Arrival) (r : RecIdx) (rest : List RecIdx) (s : State) : State :=
  setPointer k x r
    ((((recordAbandon r k .displaced s).modRec r fun e => fillRecord (e.generation + 1) k x).modQueue k fun _ =>
      rest ++ [r]).modClass k fun c => { c with accepted := satUp c.accepted })

/-- A cell for which a class has no room: its overflow policy decides (R44, R45). -/
def overflow (k : ClassIdx) (x : Arrival) (s : State) : State :=
  match (s.cls k).config.policy with
  | .refuse => refuse k s
  | .displace =>
    match s.queue k with
    | [] => refuse k s
    | r :: rest => displace k x r rest s

/-- The store tests: below the pending limit with a FREE record the cell is allocated, else the policy decides (R43). -/
def storeTests (k : ClassIdx) (x : Arrival) (s : State) : State :=
  match s.freeList with
  | [] => overflow k x s
  | r :: rest =>
    if s.holding k < (s.cls k).config.pendingLimit.val then allocate k x r rest s else overflow k x s

/-- A LEVEL report of an ENABLED class: its entry is filtered and the verdict carried out (R42, R57, R60, R61). -/
def levelReport (k : ClassIdx) (x : Arrival) (s : State) : State :=
  let out := reportEntry s k x.addr (levelOf x.datum)
  let t := s.modLevel x.addr fun _ => out.1
  match verdictOf out.1 out.2 with
  | .suppressed => t
  | .coalesced r =>
    (coalesce r x.datum x.stamp t).modClass k fun c => { c with coalesced := satUp c.coalesced }
  | .confirmed => storeTests k x t

/-- Admission takes a classified cell (R41, R42, R43). -/
def takeClassified (k : ClassIdx) (x : Arrival) (s : State) : State :=
  match (s.cls k).state with
  | .disabled => refuse k s
  | .draining => refuse k s
  | .enabled =>
    match x.kind with
    | .level => levelReport k x s
    | .pulse => storeTests k x s
    | .value => storeTests k x s

/-- Steering takes an EVENT cell: it is classified against the active bank and handed on, or is unmatched (R27, R28). -/
def steer (x : Arrival) (s : State) : State :=
  match classify s.steering x.addr x.kind with
  | none => unmatchedCell x.addr s
  | some k => takeClassified k x s

/-- Steering takes a cell: it is steered and admitted, and any kinds raised may be placed in a NOTICE (R25, R142). -/
def takeArrival (s : State) (x : Arrival) : State := placeNotice (steer x s)

/-- Steering takes the cells of source link `n` that it has not yet taken, in the order of their arrival (R168). -/
def catchUp (n : Fin 4) (s : State) : State :=
  match Tab.nth s.handed n with
  | [] => s
  | x :: rest => (x :: rest).foldl takeArrival { s with handed := Tab.put s.handed n [] }

/-- Cells that wait, `turn` naming the link of each next one, and past its end link by link. The cells of a link keep the
order of their arrival (R168); the order between links is open (R48; log 23). -/
def inTurn (turn : List (Fin 4)) (waiting : Tab (List Arrival) 4) : List Arrival :=
  match turn with
  | [] => waiting.toList.flatten
  | n :: rest =>
    match Tab.nth waiting n with
    | [] => inTurn rest waiting
    | x :: xs => x :: inTurn rest (Tab.put waiting n xs)

/-- Steering takes every cell that has been passed on to it, as it does before a soft restart (R25, R64). -/
def catchUpAll (s : State) : State :=
  (inTurn (s.turns.headD []) s.handed).foldl takeArrival { s with handed := Tab.all 4 [], turns := s.turns.tail }

end Sys2Proof.Machine
end

