-- ==== Sys2Proof/Machine/Links.lean ====
section
/-! DEFINITION. The links (chapter 11): their passages into and out of UP with what each does at the blocks behind them
(R169), and what becomes of a good cell (R164 to R168). -/

namespace Sys2Proof.Machine

/-- The effects of a link coming UP at the block behind it: a DETACHED consumer becomes WAITING (R89, R169). -/
def linkComesUp (l : LinkId) (s : State) : State :=
  match l with
  | .source _ => s
  | .consumer c => s.modPort c fun p => if p.state = .detached then { p with state := .waiting } else p

/-- A source link has left UP: its 1024 Level Image entries are reset, their pending records kept (R65). -/
def resetLevels (n : Fin 4) (s : State) : State :=
  { s with levels := Tab.eachIdx s.levels fun i e =>
      if i / 1024 = n.val then { e with confirmed := none, candidate := none, count := 0 } else e }

/-- Step 1 of a link loss: a consumer in WAITING, ACTIVE or SUSPECT becomes DETACHED (R93). -/
def ConsumerState.detach (x : ConsumerState) : ConsumerState :=
  match x with
  | .off => .off
  | .detached => .detached
  | .waiting => .detached
  | .active => .detached
  | .suspect => .detached

/-- The port of a consumer whose link has left UP (R93). -/
def portLoss (c : ConsumerIdx) (s : State) : State :=
  (returnAll c (s.modPort c fun p => { p with state := p.state.detach })).modPort c fun p =>
    { p with responseSlot := none, noticeSlot := none }

/-- The lease is freed when its holder's link leaves UP (R153). -/
def freeLeaseOf (c : ConsumerIdx) (s : State) : State := if s.holds c then { s with lease := none } else s

/-- The effects of a link leaving UP at the blocks behind it, with the cell on its wire cut short (R169, R170). The cells of a
source link that Steering has not yet taken are taken after the reset of their entries (R65). -/
def linkLeavesUp (l : LinkId) (s : State) : State :=
  match l with
  | .source n => catchUp n (resetLevels n (s.modLink (.source n) fun x => { x with wire := .quiet }))
  | .consumer c =>
    placeNotice (freeLeaseOf c ((portLoss c s).modLink (.consumer c) fun x => { x with wire := .quiet }))

/-- A good cell at the trial boundary of an ALIGNING link: the 16th in a row brings the link UP (R164, R165). -/
def goodAligning (l : LinkId) (s : State) : State :=
  if (s.link l).alignCount = 15 then
    linkComesUp l (s.modLink l fun x => { x with state := .up, alignCount := 0, badRun := 0 })
  else s.modLink l fun x => { x with alignCount := x.alignCount + 1, badRun := 0 }

/-- A good cell on link `l`: none is received while the link is DOWN; in ALIGNING it is checked for its CRC-8 alone and
counts toward alignment; in UP it ends any bad-cell run and goes on to `k` (R164, R165). -/
def goodCell (l : LinkId) (k : State → State) (s : State) : State :=
  match (s.link l).state with
  | .down => s
  | .aligning => goodAligning l s
  | .up => k (s.modLink l fun x => { x with alignCount := 0, badRun := 0 })

/-- A good cell of a type that is passed on: with a restart in progress it is discarded and counted, else `k` takes it
(R168). -/
def passOn (l : LinkId) (k : State → State) (s : State) : State :=
  goodCell l (fun t =>
    match t.restart with
    | some _ => t.modLink l fun x => { x with discarded := satUp x.discarded }
    | none => k t) s

/-- A good cell that ends at its link finds Steering done with the cells of that link before it (R168). -/
def settle (l : LinkId) (s : State) : State :=
  match l with
  | .source n => catchUp n s
  | .consumer _ => s

/-- A malformed cell: discarded, and counted on its link and in the total (R167, R171). -/
def takeMalformed (l : LinkId) (s : State) : State :=
  goodCell l (fun t =>
    settle l
      { t.modLink l (fun x => { x with malformed := satUp x.malformed }) with malformedTotal := satUp t.malformedTotal }) s

/-- A receiver enters ALIGNING: its counts are 0 and its search begins at a place the spec does not give (R164, R165; a
free value, log 7). -/
def beginAligning (l : LinkId) (s : State) : State :=
  { s.modLink l (fun x =>
      { x with state := .aligning, alignCount := 0, badRun := 0, boundary := Config.searchStart s.freeDraws }) with
    freeDraws := s.freeDraws + 1 }

/-- A receiver goes DOWN, its counts 0 (R164). -/
def goDown (l : LinkId) (s : State) : State :=
  s.modLink l fun x => { x with state := .down, alignCount := 0, badRun := 0 }

end Sys2Proof.Machine
end

