-- ==== Sys2Proof/Machine/LinkEvents.lean ====
section
/-! DEFINITION. Reset, the line events, the cells of a source link and those that end at the link (chapters 2 and 11), and
the Timebase's count (chapter 3). -/

namespace Sys2Proof.Machine

/-- The outcome of every command. -/
abbrev Result := Host.Outcome State Fault Refusal

/-- POR: every block at its POR values, every link DOWN, every transmitter quiet (R174). The detectors' reports are inputs
and stay, as do the model's own fields (log 9). -/
def execPor (s : State) : Result :=
  .next { State.inPor with
    links := Tab.each s.links fun x => { Link.por with signal := x.signal }
    late := s.late
    turns := s.turns
    freeDraws := s.freeDraws
    pending := s.pending }

/-- RESET_RELEASE: the part leaves POR, and every transmitter starts sending IDLE (R174). The Timebase counts from 0 as
TIMEBASE_COUNT follows (R38). -/
def execResetRelease (s : State) : Result :=
  .next
    (if s.resetAsserted then
      { s with resetAsserted := false, links := Tab.each s.links fun x => { x with wire := .sending .idle } }
    else s)

/-- SIGNAL_PRESENT: the detector reports a signal, and a DOWN link goes to ALIGNING; inside POR every link stays DOWN
(R164, R174). -/
def execSignalPresent (l : LinkId) (s : State) : Result :=
  let t := s.modLink l fun x => { x with signal := true }
  .next (if s.resetAsserted = false ∧ (s.link l).state = .down then beginAligning l t else t)

/-- LOSS_OF_SIGNAL: an ALIGNING or UP link goes to DOWN; a link that was UP has left UP (R164, R169). -/
def execLossOfSignal (l : LinkId) (s : State) : Result :=
  let t := s.modLink l fun x => { x with signal := false }
  .next
    (match (s.link l).state with
    | .down => t
    | .aligning => goDown l t
    | .up => linkLeavesUp l (goDown l t))

/-- GOOD_CELL_ALIGNING: a good cell at the trial boundary of an ALIGNING link (R164, R165). -/
def execGoodCellAligning (l : LinkId) (s : State) : Result :=
  .next
    (match (s.link l).state with
    | .down => s
    | .aligning => goodAligning l s
    | .up => s)

/-- A bad cell in UP: counted, and the fourth in a run takes the link out of UP; with a signal still present it goes to
ALIGNING at once (R164, R165). -/
def badCellUp (l : LinkId) (s : State) : State :=
  let t := s.modLink l fun x => { x with badCells := satUp x.badCells }
  if (s.link l).badRun = 3 then
    let d := linkLeavesUp l (goDown l t)
    if (s.link l).signal then beginAligning l d else d
  else t.modLink l fun x => { x with alignCount := 0, badRun := x.badRun + 1 }

/-- BAD_CELL: in UP it is counted and extends the bad-cell run; in ALIGNING it restarts the count and moves the trial
boundary on by one symbol; a DOWN link receives nothing (R164, R165). -/
def execBadCell (l : LinkId) (s : State) : Result :=
  .next
    (match (s.link l).state with
    | .down => s
    | .aligning => s.modLink l fun x => { x with alignCount := 0, badRun := 0, boundary := x.boundary + 1 }
    | .up => badCellUp l s)

/-- MALFORMED_CELL (R167). -/
def execMalformedCell (l : LinkId) (s : State) : Result := .next (takeMalformed l s)

/-- IDLE: the cell ends at the link (R168). -/
def execIdle (l : LinkId) (s : State) : Result := .next (goodCell l (settle l) s)

/-- An EVENT cell that is passed on with its arrival stamp (R39). Steering takes it at once, after the cells of its link that
wait, or it waits behind them: either may be (R65, R168), and the sender's next choice says which (log 22). -/
def passEvent (x : Arrival) (s : State) : State :=
  let t := { s with late := s.late.tail }
  if s.late.headD false then { t with handed := Tab.upd s.handed x.addr.link (· ++ [x]) }
  else takeArrival (catchUp x.addr.link t) x

/-- EVENT on source link `n`, stamped with the Timebase (R25, R27, R39). A datum out of its kind's range makes the cell
malformed (R167). -/
def execEvent (n : Fin 4) (m : Fin 16) (ch : Fin 64) (kind : Kind) (datum : Half) (s : State) : Result :=
  .next
    (if datumOk kind datum then passOn (.source n) (fun t => passEvent ⟨⟨n, m, ch⟩, kind, datum, t.timebase⟩ t) s
    else takeMalformed (.source n) s)

/-- One microsecond of a record's deadline passes (R1). -/
def EventRecord.elapse (e : EventRecord) : EventRecord :=
  match e.place with
  | .awaiting k c d => { e with place := .awaiting k c (d - 1) }
  | .free => e
  | .pending _ => e
  | .queued _ _ => e

/-- TIMEBASE_COUNT: outside POR the Timebase rises by one and wraps (R38). It is one microsecond, so each running deadline
and the lease timer lose one, down to 0 (R1, R152; log 4). -/
def execTimebaseCount (s : State) : Result :=
  .next
    (if s.resetAsserted then s
    else
      { s with
        timebase := s.timebase + 1
        records := Tab.each s.records EventRecord.elapse
        lease := s.lease.map fun x => { x with remaining := x.remaining - 1 } })

end Sys2Proof.Machine
end

