-- ==== Sys2Proof/Machine/Settlement.lean ====
section
/-! DEFINITION. Consumer cells and deadlines: ACK, NACK, LOAD and EXPIRY (chapters 6 and 8). -/

namespace Sys2Proof.Machine

/-- One tag of an ACK: an accepted tag completes its record, a stale one is counted. Each is a transition of its own, at
the end of which the Notice Unit tests (R120, R121, R142). -/
def takeAckTag (c : ConsumerIdx) (s : State) (t : Tag) : State :=
  match acceptedClass s c t with
  | some k => placeNotice (complete c k t.index s)
  | none => countStale c s

/-- ACK: the tags are taken one after another in cell order (R120). A tag count outside 1..4 makes the cell malformed
(R167). -/
def execAck (c : Fin 6) (tags : List Tag) (s : State) : Result :=
  .next
    (if tagCountOk tags then passOn (.consumer c) (fun t => tags.foldl (takeAckTag c) t) s
    else takeMalformed (.consumer c) s)

/-- An accepted NACK with reason BUSY: the run ends, the failure is charged and decided (R123). -/
def busyFailure (c : ConsumerIdx) (k : ClassIdx) (r : RecIdx) (s : State) : State :=
  failureDecision k r (chargeFailure c r
    (s.modPort c fun p => { p with busyNacks := satUp p.busyNacks, consecutive := 0 }))

/-- NACK_BUSY (R122, R123). -/
def execNackBusy (c : Fin 6) (tag : Tag) (s : State) : Result :=
  .next
    (passOn (.consumer c) (fun t =>
      match acceptedClass t c tag with
      | some k => placeNotice (busyFailure c k tag.index t)
      | none => countStale c t) s)

/-- An accepted NACK with reason REJECT: the run ends and the record is abandoned with REJECTED (R124). -/
def rejectRecord (c : ConsumerIdx) (r : RecIdx) (s : State) : State :=
  abandon r .rejected (s.modPort c fun p => { p with rejects := satUp p.rejects, consecutive := 0 })

/-- NACK_REJECT (R122, R124). -/
def execNackReject (c : Fin 6) (tag : Tag) (s : State) : Result :=
  .next
    (passOn (.consumer c) (fun t =>
      match acceptedClass t c tag with
      | some _ => placeNotice (rejectRecord c tag.index t)
      | none => countStale c t) s)

/-- A LOAD at its port: the level is stored, and a WAITING or SUSPECT consumer becomes ACTIVE with its run at 0 (R90). -/
def Port.takeLoad (p : Port) (level : Fin 16) : Port :=
  match p.state with
  | .waiting => { p with load := level, consecutive := 0, state := .active }
  | .suspect => { p with load := level, consecutive := 0, state := .active }
  | .active => { p with load := level }
  | .off => { p with load := level }
  | .detached => { p with load := level }

/-- LOAD (R90). -/
def execLoad (c : Fin 6) (level : Fin 16) (s : State) : Result :=
  .next (passOn (.consumer c) (fun t => t.modPort c fun p => p.takeLoad level) s)

/-- The SUSPECT test after an expiry (R91, R126 step 5). -/
def suspectCheck (c : ConsumerIdx) (s : State) : State :=
  if (s.port c).state = .active ∧ (s.port c).threshold.val ≤ (s.port c).consecutive.toNat then
    raiseSuspect c (s.modPort c fun p => { p with state := .suspect })
  else s

/-- The steps of an expiry (R126): the counter, the run, the charge, the failure decision, the SUSPECT test. -/
def expire (c : ConsumerIdx) (k : ClassIdx) (r : RecIdx) (s : State) : State :=
  suspectCheck c (failureDecision k r (chargeFailure c r
    (s.modPort c fun p => { p with expiries := satUp p.expiries, consecutive := satUp p.consecutive })))

/-- EXPIRY of record `r`: taken when the record is AWAITING and its deadline has reached 0 (R11, R126); otherwise no such
event happens (log 5). -/
def execExpiry (r : Fin 512) (s : State) : Result :=
  .next
    (match (s.rcd r).place with
    | .awaiting k c d => if d = 0 then placeNotice (expire c k r s) else s
    | .free => s
    | .pending _ => s
    | .queued _ _ => s)

end Sys2Proof.Machine
end

