-- ==== Sys2Proof/Machine/Grants.lean ====
section
/-! DEFINITION. The Dispatcher (chapter 7) and the transmitters (chapters 3, 6 and 11): GRANT, CELL_SLOT and
SEND_COMPLETION. -/

namespace Sys2Proof.Machine

/-- A consumer that may receive a record of a class: in the group, ACTIVE, below its window (R112). -/
def isCandidate (s : State) (k : ClassIdx) (c : ConsumerIdx) : Bool :=
  inSet (s.cls k).config.group c.val && (s.port c).state == .active &&
    decide ((s.port c).dispatched < (s.port c).window.val)

/-- A class is a contender (R107). -/
def isContender (s : State) (k : ClassIdx) : Bool :=
  (s.cls k).state != .disabled && !(s.queue k).isEmpty &&
    ((s.cls k).config.order == .free || (s.cls k).dispatchedCount == 0) && allConsumers.any (isCandidate s k)

/-- The class numbers in the order in which a search that begins at `start` meets them (R111). -/
def searchFrom (start : ClassIdx) : List ClassIdx := (List.range 32).map fun i => start + Fin.ofNat 32 i

/-- The winner of one priority level: the first contender of that level from its round-robin pointer on (R111). -/
def levelWinner (s : State) (p : Fin 4) : Option ClassIdx :=
  (searchFrom (Tab.nth s.pointers p)).find? fun k => isContender s k && (s.cls k).config.priority == p

/-- The class served: the winner of the first priority level that has a contender (R110). -/
def chooseClass (s : State) : Option ClassIdx := [0, 1, 2, 3].findSome? (levelWinner s)

/-- The consumers considered for a record: the candidates outside its tried set if there are any, else every candidate
(R112). -/
def considered (s : State) (k : ClassIdx) (r : RecIdx) : List ConsumerIdx :=
  let cands := allConsumers.filter (isCandidate s k)
  let fresh := cands.filter fun c => !inSet (s.rcd r).tried c.val
  if fresh.isEmpty then cands else fresh

/-- The effective load: reported load plus dispatched count (R114). -/
def effectiveLoad (s : State) (c : ConsumerIdx) : Nat := (s.port c).load.val + (s.port c).dispatched

/-- The first member of a list with the lowest effective load. -/
def leastLoaded (s : State) (cs : List ConsumerIdx) : Option ConsumerIdx :=
  match cs with
  | [] => none
  | c :: rest =>
    match leastLoaded s rest with
    | none => some c
    | some d => if effectiveLoad s d < effectiveLoad s c then some d else some c

/-- The consumer for the head record: the lowest index in PRIMARY mode (R113); in BALANCED mode the lowest effective load,
ties to the earliest in the Grant Order List (R114). -/
def chooseConsumer (s : State) (k : ClassIdx) (r : RecIdx) : Option ConsumerIdx :=
  match (s.cls k).config.mode with
  | .primary => (considered s k r).head?
  | .balanced => leastLoaded s (s.grantOrder.filter fun c => (considered s k r).contains c)

/-- The DELIVER of a record of class `k` as it stands (R10). -/
def deliverOf (e : EventRecord) (k : ClassIdx) (r : RecIdx) : Deliver where
  tag := ⟨r, e.generation⟩
  delivery := e.delivery
  cls := k
  addr := e.addr
  kind := e.kind
  datum := e.datum
  stamp := e.stamp
  superseded := e.superseded

/-- The record as a grant to consumer `c` leaves it (R10). -/
def EventRecord.granted (e : EventRecord) (k : ClassIdx) (c : ConsumerIdx) : EventRecord :=
  { e with place := .queued k c, delivery := satUp e.delivery, neverDispatched := false }

/-- A grant of the head record `r` of class `k`, `rest` behind it, to consumer `c` (R10, R115). -/
def grantRecord (k : ClassIdx) (c : ConsumerIdx) (r : RecIdx) (rest : List RecIdx) (s : State) : State :=
  let d := deliverOf ((s.rcd r).granted k c) k r
  let t := (((clearPointer r s).modRec r fun e => e.granted k c).modQueue k fun _ => rest).modClass k fun x =>
    { x with pendingCount := x.pendingCount - 1, dispatchedCount := x.dispatchedCount + 1 }
  let u := t.modPort c fun p => { p with tx := p.tx ++ [d], dispatched := p.dispatched + 1 }
  { u with
    grantOrder := (u.grantOrder.filter fun x => x != c) ++ [c]
    pointers := Tab.put u.pointers (u.cls k).config.priority (k + 1) }

/-- The Dispatcher's decision: a class, its head record with the rest of the queue, and a consumer (R108). -/
def decision (s : State) : Option (ClassIdx × ConsumerIdx × RecIdx × List RecIdx) :=
  match chooseClass s with
  | none => none
  | some k =>
    match s.queue k with
    | [] => none
    | r :: rest =>
      match chooseConsumer s k r with
      | none => none
      | some c => some (k, c, r, rest)

/-- GRANT: one decision of the Dispatcher, when at least one class is a contender; none is made during a restart
(R108, R115, R161). -/
def execGrant (s : State) : Result :=
  .next
    (match s.restart with
    | some _ => s
    | none =>
      match decision s with
      | none => s
      | some (k, c, r, rest) => grantRecord k c r rest s)

/-! ## Transmitters -/

/-- A cell begins on a transmitter's wire. -/
def putOnWire (l : LinkId) (c : OutCell) (s : State) : State := s.modLink l fun x => { x with wire := .sending c }

/-- The cell a source transmitter sends (R50). -/
def sourceCell (x : LinkState) (h : HoldState) : OutCell :=
  match x with
  | .down => .idle
  | .aligning => .idle
  | .up =>
    match h with
    | .asserted => .hold
    | .released => .go

/-- The choice of a consumer transmitter on an UP link: RESPONSE, NOTICE, DELIVER, IDLE, in this order; a slot empties as
its cell begins (R97, R98). -/
def consumerSlot (c : ConsumerIdx) (s : State) : State :=
  match (s.port c).responseSlot with
  | some r => putOnWire (.consumer c) (.response r) (s.modPort c fun p => { p with responseSlot := none })
  | none =>
    match (s.port c).noticeSlot with
    | some n =>
      placeNotice (putOnWire (.consumer c) (.notice n) (s.modPort c fun p => { p with noticeSlot := none }))
    | none =>
      match (s.port c).tx with
      | d :: _ => putOnWire (.consumer c) (.deliver d) s
      | [] => putOnWire (.consumer c) .idle s

/-- A DELIVER whose last octet has not been sent is on the wire: no new slot begins before its end (R98; log 12). -/
def deliverOnWire (w : Wire) : Bool :=
  match w with
  | .quiet => false
  | .finishing _ => false
  | .sending c =>
    match c with
    | .deliver _ => true
    | .idle => false
    | .hold => false
    | .go => false
    | .response _ => false
    | .notice _ => false

/-- CELL_SLOT: a cell slot of link `l` begins and its transmitter chooses the cell it sends (R50, R98, R170). Inside POR
every transmitter is quiet (R174). -/
def execCellSlot (l : LinkId) (s : State) : Result :=
  .next
    (if s.resetAsserted then s
    else
      match l with
      | .source n => putOnWire (.source n) (sourceCell (s.link (.source n)).state s.hold) s
      | .consumer c =>
        if deliverOnWire (s.link (.consumer c)).wire then s
        else
          match (s.link (.consumer c)).state with
          | .down => putOnWire (.consumer c) .idle s
          | .aligning => putOnWire (.consumer c) .idle s
          | .up => consumerSlot c s)

/-- The deadline a DELIVER's record starts with: the ack deadline of its class in microseconds (R11, R99). -/
def ackSpan (s : State) (k : ClassIdx) : Nat := (s.cls k).config.ackDeadline.val * Config.ackUnit

/-- A DELIVER has been sent whose record is still QUEUED at consumer `c`: the record joins the tail of the awaiting list
with its deadline started, and the delivers-sent counter rises (R11, R99). -/
def sendRecord (c : ConsumerIdx) (k : ClassIdx) (r : RecIdx) (s : State) : State :=
  (s.modRec r fun e => { e with place := .awaiting k c (ackSpan s k) }).modPort c fun p =>
    { p with tx := withoutDeliver r p.tx, waitingAck := p.waitingAck ++ [r], deliversSent := satUp p.deliversSent }

/-- The transmitter reports the end of DELIVER `d` to the port (R99). -/
def deliverSent (c : ConsumerIdx) (d : Deliver) (s : State) : State :=
  match (s.rcd d.tag.index).place with
  | .queued k x => if x = c then sendRecord c k d.tag.index s else s
  | .free => s
  | .pending _ => s
  | .awaiting _ _ _ => s

/-- SEND_COMPLETION: the last octet of the DELIVER on consumer `c`'s wire is sent. A DELIVER whose record was withdrawn is
finished and not reported (R11, R98, R99). -/
def execSendCompletion (c : Fin 6) (s : State) : Result :=
  let quiet := s.modLink (.consumer c) fun x => { x with wire := .quiet }
  .next
    (match (s.link (.consumer c)).wire with
    | .quiet => s
    | .finishing _ => quiet
    | .sending x =>
      match x with
      | .deliver d => deliverSent c d quiet
      | .idle => s
      | .hold => s
      | .go => s
      | .response _ => s
      | .notice _ => s)

end Sys2Proof.Machine
end

