-- ==== Sys2Proof/Machine/Operands.lean ====
section
/-! DEFINITION. Codes, page images and cells: how the state is carried in octets (R172, sections 11.7 to 11.9). Every READ
page, the images that a WRITE carries with their validation (R32, R79, R100, R156), and the 16 octets of every cell that
the part sends. -/

namespace Sys2Proof.Machine

/-! ## Octets -/

/-- An octet that holds a number. -/
def octet (n : Nat) : Byte := BitVec.ofNat 8 n
/-- A flag: 0 for no, 1 for yes (R173). -/
def flagOctet (b : Bool) : Byte := if b then 1 else 0
/-- The flag of an octet, none for a value that is neither (R72, R173). -/
def flagOf (b : Byte) : Option Bool := if b = 0 then some false else if b = 1 then some true else none
/-- A set of up to eight members as an octet (R172). -/
def setOctet {w : Nat} (m : BitVec w) : Byte := m.setWidth 8
/-- The mask of `w` members of an octet, none when a bit above the last member is set (R172). -/
def setOf (w : Nat) (b : Byte) : Option (BitVec w) := if b.toNat < 2 ^ w then some (b.setWidth w) else none
/-- A field of two octets that holds a number. -/
def half (n : Nat) : Half := BitVec.ofNat 16 n
/-- The carried form of a source address (R172). -/
def addrHalf (a : Addr) : Half := half (levelIndex a).val
/-- An absent value is carried as all ones (R172). -/
def optOctet (o : Option Byte) : Byte :=
  match o with
  | none => 0xFF#8
  | some x => x
/-- An absent value of two octets is carried as all ones (R172). -/
def optHalf (o : Option Half) : Half :=
  match o with
  | none => 0xFFFF#16
  | some x => x

/-! ## Codes (section 11.7) -/

/-- Status codes. -/
def Status.code (x : Status) : Byte :=
  match x with
  | .ok => 0x00#8
  | .held => 0x01#8
  | .notHolder => 0x02#8
  | .badOp => 0x03#8
  | .badTable => 0x04#8
  | .badIndex => 0x05#8
  | .badValue => 0x06#8
  | .readOnly => 0x07#8
  | .inUse => 0x08#8
  | .bankActive => 0x09#8
  | .frozen => 0x0A#8
  | .empty => 0x0B#8

/-- Abandon reason codes. -/
def Reason.code (x : Reason) : Byte :=
  match x with
  | .exhausted => 0x01#8
  | .rejected => 0x02#8
  | .purged => 0x03#8
  | .displaced => 0x04#8

/-- Record state codes. -/
def Place.code (p : Place) : Byte :=
  match p with
  | .free => 0x00#8
  | .pending _ => 0x01#8
  | .queued _ _ => 0x02#8
  | .awaiting _ _ _ => 0x03#8

/-- Class state codes. -/
def ClassState.code (x : ClassState) : Byte :=
  match x with
  | .disabled => 0x00#8
  | .enabled => 0x01#8
  | .draining => 0x02#8

/-- Consumer state codes. -/
def ConsumerState.code (x : ConsumerState) : Byte :=
  match x with
  | .off => 0x00#8
  | .detached => 0x01#8
  | .waiting => 0x02#8
  | .active => 0x03#8
  | .suspect => 0x04#8

/-- Link state codes. -/
def LinkState.code (x : LinkState) : Byte :=
  match x with
  | .down => 0x00#8
  | .aligning => 0x01#8
  | .up => 0x02#8

/-- Confirmed level codes; UNKNOWN is 2. -/
def confirmedCode (x : Option Level) : Byte :=
  match x with
  | none => 0x02#8
  | some v => octet v.val

/-- Bank codes. -/
def bankCode (x : Bank) : Byte :=
  match x with
  | .a => 0x00#8
  | .b => 0x01#8

/-- Hold state codes. -/
def HoldState.code (x : HoldState) : Byte :=
  match x with
  | .released => 0x00#8
  | .asserted => 0x01#8

/-- The tables of the catalogue (R154). -/
inductive Table where
  | device
  | steering (bank : Bank)
  | classConfig
  | consumerConfig
  | classCounts
  | consumerCounts
  | level
  | store
  | status
  | linkCounts
  deriving DecidableEq, Repr

/-- The table of a code; any other code names no table (R154). -/
def tableOf (b : Byte) : Option Table :=
  if b = 0x01#8 then some .device
  else if b = 0x02#8 then some (.steering .a)
  else if b = 0x03#8 then some (.steering .b)
  else if b = 0x04#8 then some .classConfig
  else if b = 0x05#8 then some .consumerConfig
  else if b = 0x06#8 then some .classCounts
  else if b = 0x07#8 then some .consumerCounts
  else if b = 0x08#8 then some .level
  else if b = 0x09#8 then some .store
  else if b = 0x0A#8 then some .status
  else if b = 0x0B#8 then some .linkCounts
  else none

/-! ## Page images (section 11.9) -/

/-- The DEVICE page. -/
def devicePage (d : Device) : Page :=
  { Page.zero with
    o0 := octet d.leasePeriod.val, o1 := octet d.low.val
    o2 := hiOctet (half d.high.val), o3 := loOctet (half d.high.val) }

/-- A steering page. -/
def steerPage (e : SteerEntry) : Page :=
  ⟨flagOctet e.valid, setOctet e.links, octet e.moduleLow.val, octet e.moduleHigh.val, octet e.channelLow.val,
    octet e.channelHigh.val, setOctet e.kinds, octet e.cls.val⟩

/-- The settings octet of a CLASS page. -/
def settingsOctet (c : ClassConfig) : Byte :=
  (if c.mode = .primary then 1 else 0) ||| (if c.order = .serial then 2 else 0) ||| (if c.coalesce then 4 else 0) |||
    (if c.policy = .displace then 8 else 0)

/-- The CLASS page. -/
def classPage (c : ClassConfig) : Page :=
  ⟨setOctet c.group, settingsOctet c, octet c.priority.val, octet c.ackDeadline.val, octet c.attemptLimit.val,
    octet c.confirmCount.val, hiOctet (half c.pendingLimit.val), loOctet (half c.pendingLimit.val)⟩

/-- The CONSUMER page. -/
def consumerPage (p : Port) : Page := { Page.zero with o0 := octet p.window.val, o1 := octet p.threshold.val }

/-- The DEVICE record of an image, none where R156 answers BAD_VALUE. -/
def deviceOf (p : Page) : Option Device :=
  let high := be16 p.o2 p.o3
  if h : 1 ≤ p.o0.toNat ∧ 8 ≤ p.o1.toNat ∧ p.o1.toNat < high.toNat ∧ high.toNat ≤ 511 then
    some ⟨⟨p.o0.toNat, by omega⟩, ⟨p.o1.toNat, by omega⟩, ⟨high.toNat, by omega⟩⟩
  else none

/-- The conditions of R23 that a valid entry is held to (R32). -/
def steerValid (e : SteerEntry) : Bool :=
  !e.valid ||
    (decide (e.links ≠ 0) && decide (e.kinds ≠ 0) && decide (e.moduleLow ≤ e.moduleHigh) &&
      decide (e.channelLow ≤ e.channelHigh))

/-- The steering entry of an image, none where R32 answers BAD_VALUE. -/
def steerOf (p : Page) : Option SteerEntry :=
  match flagOf p.o0, setOf 4 p.o1, finOf 16 p.o2, finOf 16 p.o3, finOf 64 p.o4, finOf 64 p.o5, setOf 3 p.o6,
      finOf 32 p.o7 with
  | some v, some ls, some ml, some mh, some cl, some ch, some ks, some k =>
    let e : SteerEntry := ⟨v, ls, ml, mh, cl, ch, ks, k⟩
    if steerValid e then some e else none
  | _, _, _, _, _, _, _, _ => none

/-- The class configuration of an image, none where R79 answers BAD_VALUE. -/
def classOf (p : Page) : Option ClassConfig :=
  let limit := be16 p.o6 p.o7
  match setOf 6 p.o0, setOf 4 p.o1, finOf 4 p.o2 with
  | some g, some bits, some pr =>
    if h : 1 ≤ p.o3.toNat ∧ 1 ≤ p.o4.toNat ∧ p.o4.toNat ≤ 7 ∧ 1 ≤ p.o5.toNat ∧ p.o5.toNat ≤ 4 ∧ 1 ≤ limit.toNat ∧
        limit.toNat ≤ 512 then
      some
        { group := g
          mode := if inSet bits 0 then .primary else .balanced
          order := if inSet bits 1 then .serial else .free
          priority := pr
          ackDeadline := ⟨p.o3.toNat, by omega⟩
          attemptLimit := ⟨p.o4.toNat, by omega⟩
          confirmCount := ⟨p.o5.toNat, by omega⟩
          coalesce := inSet bits 2
          policy := if inSet bits 3 then .displace else .refuse
          pendingLimit := ⟨limit.toNat, by omega⟩ }
    else none
  | _, _, _ => none

/-- The window and suspect threshold of an image, none where R100 answers BAD_VALUE. -/
def consumerOf (p : Page) : Option (Fin 9 × Fin 16) :=
  if h : 1 ≤ p.o0.toNat ∧ p.o0.toNat ≤ 8 ∧ 1 ≤ p.o1.toNat ∧ p.o1.toNat ≤ 15 then
    some (⟨p.o0.toNat, by omega⟩, ⟨p.o1.toNat, by omega⟩)
  else none

/-- A page of a STORE record (R22). -/
def storePage (e : EventRecord) (page : Nat) : Option Page :=
  match page with
  | 0 =>
    some ⟨e.place.code, octet e.generation.val, optOctet (e.place.cls.map fun k => octet k.val),
      hiOctet (addrHalf e.addr), loOctet (addrHalf e.addr), kindCode e.kind, hiOctet e.datum, loOctet e.datum⟩
  | 1 =>
    some ⟨stampOctet e.stamp 0, stampOctet e.stamp 1, stampOctet e.stamp 2, stampOctet e.stamp 3,
      e.delivery.setWidth 8, e.failed.setWidth 8, e.superseded, setOctet e.tried⟩
  | 2 =>
    let dl : Half :=
      match e.place with
      | .awaiting _ _ d => half d
      | .free => 0xFFFF#16
      | .pending _ => 0xFFFF#16
      | .queued _ _ => 0xFFFF#16
    some { Page.zero with
      o0 := flagOctet e.neverDispatched, o1 := optOctet (e.place.cur.map fun c => octet c.val)
      o2 := hiOctet dl, o3 := loOctet dl }
  | _ => none

/-- The page of a LEVEL record (R67). -/
def levelPage (e : LevelEntry) (page : Nat) : Option Page :=
  match page with
  | 0 =>
    let pr := optHalf (e.pendingRec.map fun r => half r.val)
    some { Page.zero with
      o0 := confirmedCode e.confirmed, o1 := optOctet (e.candidate.map fun v => octet v.val)
      o2 := octet e.count.val, o3 := hiOctet pr, o4 := loOctet pr }
  | _ => none

/-- A page of a CLASS_COUNTS record (R81). -/
def classCountsPage (c : ClassRecord) (page : Nat) : Option Page :=
  match page with
  | 0 =>
    some ⟨c.state.code, flagOctet c.purge, hiOctet (half c.pendingCount), loOctet (half c.pendingCount),
      hiOctet (half c.dispatchedCount), loOctet (half c.dispatchedCount), hiOctet c.accepted, loOctet c.accepted⟩
  | 1 =>
    some ⟨hiOctet c.refused, loOctet c.refused, hiOctet c.coalesced, loOctet c.coalesced, hiOctet c.completed,
      loOctet c.completed, hiOctet c.abandoned, loOctet c.abandoned⟩
  | _ => none

/-- A page of a CONSUMER_COUNTS record (R101). -/
def consumerCountsPage (p : Port) (page : Nat) : Option Page :=
  match page with
  | 0 =>
    some ⟨p.state.code, octet p.load.val, p.consecutive.setWidth 8, octet p.dispatched, octet p.tx.length,
      octet p.waitingAck.length, hiOctet p.deliversSent, loOctet p.deliversSent⟩
  | 1 =>
    some ⟨hiOctet p.acksTaken, loOctet p.acksTaken, hiOctet p.busyNacks, loOctet p.busyNacks, hiOctet p.rejects,
      loOctet p.rejects, hiOctet p.expiries, loOctet p.expiries⟩
  | 2 =>
    some { Page.zero with
      o0 := hiOctet p.staleTags, o1 := loOctet p.staleTags, o2 := hiOctet p.overruns, o3 := loOctet p.overruns
      o4 := hiOctet p.replays, o5 := loOctet p.replays }
  | _ => none

/-- A page of the STATUS record (R157). -/
def statusPage (s : State) (page : Nat) : Option Page :=
  let st := fun l => (s.link l).state.code
  match page with
  | 0 =>
    some ⟨stampOctet s.timebase 0, stampOctet s.timebase 1, stampOctet s.timebase 2, stampOctet s.timebase 3,
      hiOctet (half s.freeCount), loOctet (half s.freeCount), bankCode s.activeBank,
      optOctet (s.lease.map fun l => octet l.holder.val)⟩
  | 1 =>
    let ad := optHalf (s.lastUnmatched.map addrHalf)
    some ⟨flagOctet s.frozen, s.hold.code, hiOctet s.unmatched, loOctet s.unmatched, hiOctet ad, loOctet ad,
      hiOctet s.malformedTotal, loOctet s.malformedTotal⟩
  | 2 =>
    some ⟨st (.source 0), st (.source 1), st (.source 2), st (.source 3), st (.consumer 0), st (.consumer 1),
      st (.consumer 2), st (.consumer 3)⟩
  | 3 =>
    some { Page.zero with
      o0 := st (.consumer 4), o1 := st (.consumer 5), o2 := octet s.log.length, o3 := s.overwrites
      o4 := hiOctet s.restartCount, o5 := loOctet s.restartCount }
  | _ => none

/-- The page of a LINK_COUNTS record (R171). -/
def linkCountsPage (x : Link) (page : Nat) : Option Page :=
  match page with
  | 0 =>
    some { Page.zero with
      o0 := hiOctet x.badCells, o1 := loOctet x.badCells, o2 := hiOctet x.malformed, o3 := loOctet x.malformed
      o4 := hiOctet x.discarded, o5 := loOctet x.discarded }
  | _ => none

/-- A page of the oldest Abandon Log entry; `after` is the log occupancy after the removal (R139). -/
def takeLogPage (s : State) (e : LogEntry) (after page : Nat) : Option Page :=
  match page with
  | 0 =>
    some ⟨e.number, octet e.cls.val, hiOctet (addrHalf e.addr), loOctet (addrHalf e.addr),
      kindCode e.kind + 16 * e.reason.code, hiOctet e.datum, loOctet e.datum, e.superseded⟩
  | 1 =>
    some ⟨stampOctet e.arrival 0, stampOctet e.arrival 1, stampOctet e.arrival 2, stampOctet e.arrival 3,
      stampOctet e.abandonStamp 0, stampOctet e.abandonStamp 1, stampOctet e.abandonStamp 2,
      stampOctet e.abandonStamp 3⟩
  | 2 =>
    some { Page.zero with
      o0 := e.number, o1 := e.failed.setWidth 8, o2 := e.delivery.setWidth 8, o3 := octet after, o4 := s.overwrites }
  | _ => none

/-- A single-page record read at page 0 alone. -/
def onPageZero (page : Nat) (p : Page) : Option Page := if page = 0 then some p else none

/-- The page of a table record, none where the index or the page lies outside the table (R154). -/
def readPage (s : State) (t : Table) (index page : Nat) : Option Page :=
  match t with
  | .device => if index = 0 then onPageZero page (devicePage s.device) else none
  | .steering bank =>
    if h : index < 64 then
      onPageZero page (steerPage (Tab.nth (match bank with | .a => s.bankA | .b => s.bankB) ⟨index, h⟩))
    else none
  | .classConfig => if h : index < 32 then onPageZero page (classPage (s.cls ⟨index, h⟩).config) else none
  | .consumerConfig => if h : index < 6 then onPageZero page (consumerPage (s.port ⟨index, h⟩)) else none
  | .classCounts => if h : index < 32 then classCountsPage (s.cls ⟨index, h⟩) page else none
  | .consumerCounts => if h : index < 6 then consumerCountsPage (s.port ⟨index, h⟩) page else none
  | .level => if h : index < 4096 then levelPage (Tab.nth s.levels ⟨index, h⟩) page else none
  | .store => if h : index < 512 then storePage (s.rcd ⟨index, h⟩) page else none
  | .status => if index = 0 then statusPage s page else none
  | .linkCounts => if h : index < 10 then linkCountsPage (Tab.nth s.links ⟨index, h⟩) page else none

/-! ## Cells sent (section 11.8) -/

/-- The cell of a DELIVER. -/
def deliverCell (d : Deliver) : Cell :=
  (⟨0x21#8, hiOctet (tagCode d.tag), loOctet (tagCode d.tag), d.delivery.setWidth 8, octet d.cls.val,
    hiOctet (addrHalf d.addr), loOctet (addrHalf d.addr), kindCode d.kind, hiOctet d.datum, loOctet d.datum,
    stampOctet d.stamp 0, stampOctet d.stamp 1, stampOctet d.stamp 2, stampOctet d.stamp 3, d.superseded, 0⟩ :
    Cell).withCrc

/-- The cell of a RESPONSE. -/
def responseCell (r : Response) : Cell :=
  { Cell.blank 0x22#8 with
    o1 := r.seq, o2 := r.status.code, o3 := r.data.o0, o4 := r.data.o1, o5 := r.data.o2, o6 := r.data.o3
    o7 := r.data.o4, o8 := r.data.o5, o9 := r.data.o6, o10 := r.data.o7 }.withCrc

/-- The cell of a NOTICE. -/
def noticeCell (n : Notice) : Cell :=
  { Cell.blank 0x23#8 with
    o1 := flagOctet n.abandon, o2 := octet n.occupancy, o3 := setOctet n.suspects
    o4 := stampOctet n.idle 0, o5 := stampOctet n.idle 1, o6 := stampOctet n.idle 2, o7 := stampOctet n.idle 3
    o8 := flagOctet n.hold }.withCrc

/-- The 16 octets of a cell that the part sends (R170, R172). -/
def OutCell.cell (c : OutCell) : Cell :=
  match c with
  | .idle => (Cell.blank 0x00#8).withCrc
  | .hold => (Cell.blank 0x12#8).withCrc
  | .go => (Cell.blank 0x13#8).withCrc
  | .deliver d => deliverCell d
  | .response r => responseCell r
  | .notice n => noticeCell n

end Sys2Proof.Machine
end

