-- ==== Sys2Proof/Machine/Requests.lean ====
section
/-! DEFINITION. The Management Unit's way with every request: intake, overrun, replay, the lease test, the response and the
lease timer (R147 to R149, R152), and what each operation answers. -/

namespace Sys2Proof.Machine

/-- What carrying out an operation gives: the state, and the status and data of the response. A RESTART that is taken gives
no response until its end (R147, R162). -/
structure Answer where
  state : State
  reply : Option (Status × Page)

/-- An answer with a status other than OK and HELD: nothing is changed and the data is 0 (R149). -/
def deny (x : Status) (s : State) : Answer := ⟨s, some (x, Page.zero)⟩

/-- An answer OK with its data (R173). -/
def okay (d : Page) (s : State) : Answer := ⟨s, some (.ok, d)⟩

/-- Data of one octet. -/
def data1 (a : Byte) : Page := { Page.zero with o0 := a }

/-- Place a response in a consumer's response slot (R97, R147). -/
def placeResponse (c : ConsumerIdx) (r : Response) (s : State) : State :=
  s.modPort c fun p => { p with responseSlot := some r }

/-- Carry out a request: its response is placed and stored as the replay record in the same transition, and the holder's
lease timer is restarted (R147, R148, R152). -/
def carryOut (c : ConsumerIdx) (seq : Byte) (op : State → Answer) (s : State) : State :=
  let a := op s
  match a.reply with
  | none => a.state
  | some (st, d) =>
    renewLease c ((placeResponse c ⟨seq, st, d⟩ a.state).modPort c fun p => { p with replay := some ⟨seq, st, d⟩ })

/-- A replay is answered from the replay record and not carried out (R148, R152). -/
def answerReplay (c : ConsumerIdx) (r : Response) (s : State) : State :=
  renewLease c ((placeResponse c r s).modPort c fun p => { p with replays := satUp p.replays })

/-- The Management Unit takes a REQUEST that a port passes on: an occupied response slot discards it as an overrun, a
repeated seq is a replay, and any other is carried out (R147). -/
def intake (c : ConsumerIdx) (seq : Byte) (op : State → Answer) (s : State) : State :=
  match (s.port c).responseSlot with
  | some _ => s.modPort c fun p => { p with overruns := satUp p.overruns }
  | none =>
    match (s.port c).replay with
    | none => carryOut c seq op s
    | some r => if r.seq = seq then answerReplay c r s else carryOut c seq op s

/-- A REQUEST cell on consumer link `c` (R96, R147, R168). -/
def request (c : ConsumerIdx) (seq : Byte) (op : State → Answer) (s : State) : State :=
  passOn (.consumer c) (intake c seq op) s

/-- An operation that needs the lease: any other sender is answered NOT_HOLDER (R149). -/
def holderOnly (c : ConsumerIdx) (op : State → Answer) (s : State) : Answer :=
  if s.holds c then op s else deny .notHolder s

/-! ## The lease -/

/-- CLAIM: a FREE lease is taken, the sender's own is renewed, another's is answered HELD (R150). Taking a FREE lease lets
the Notice Unit test (R143). -/
def opClaim (c : ConsumerIdx) (s : State) : Answer :=
  let data := { Page.zero with o0 := octet c.val, o1 := octet s.device.leasePeriod.val }
  match s.lease with
  | none => okay data (placeNotice { s with lease := some ⟨c, leaseSpan s⟩ })
  | some l => if l.holder = c then okay data s else ⟨s, some (.held, data1 (octet l.holder.val))⟩

/-- RELEASE: the lease becomes FREE and its timer stops (R151). -/
def opRelease (s : State) : Answer := okay Page.zero { s with lease := none }

/-! ## Reading and writing tables -/

/-- READ (R154). -/
def opRead (table : Byte) (index : Half) (page : Byte) (s : State) : Answer :=
  match tableOf table with
  | none => deny .badTable s
  | some t =>
    match readPage s t index.toNat page.toNat with
    | none => deny .badIndex s
    | some p => okay p s

/-- WRITE of the DEVICE record (R156): the hold rule is applied to the new watermarks (R52). -/
def opWriteDevice (index : Half) (page : Byte) (image : Page) (s : State) : Answer :=
  if index = 0 ∧ page = 0 then
    if s.frozen then deny .frozen s
    else
      match deviceOf image with
      | none => deny .badValue s
      | some d => okay (devicePage d) (placeNotice (applyHold { s with device := d }))
  else deny .badIndex s

/-- Replace entry `i` of a bank (R33). -/
def writeEntryOf (bank : Bank) (i : Fin 64) (e : SteerEntry) (s : State) : State :=
  match bank with
  | .a => { s with bankA := Tab.put s.bankA i e }
  | .b => { s with bankB := Tab.put s.bankB i e }

/-- WRITE of STEERING_A or STEERING_B (R31 to R33). -/
def opWriteSteering (bank : Bank) (index : Half) (page : Byte) (image : Page) (s : State) : Answer :=
  if h : index.toNat < 64 ∧ page = 0 then
    if s.frozen then deny .frozen s
    else if s.activeBank = bank then deny .bankActive s
    else
      match steerOf image with
      | none => deny .badValue s
      | some e => okay (steerPage e) (writeEntryOf bank ⟨index.toNat, h.1⟩ e s)
  else deny .badIndex s

/-- WRITE of a CLASS record (R78 to R80). -/
def opWriteClass (index : Half) (page : Byte) (image : Page) (s : State) : Answer :=
  if h : index.toNat < 32 ∧ page = 0 then
    if s.frozen then deny .frozen s
    else if (s.cls ⟨index.toNat, h.1⟩).state ≠ .disabled then deny .inUse s
    else
      match classOf image with
      | none => deny .badValue s
      | some g => okay (classPage g) (s.modClass ⟨index.toNat, h.1⟩ fun c => { c with config := g })
  else deny .badIndex s

/-- WRITE of a CONSUMER record (R100). -/
def opWriteConsumer (index : Half) (page : Byte) (image : Page) (s : State) : Answer :=
  if h : index.toNat < 6 ∧ page = 0 then
    if s.frozen then deny .frozen s
    else if (s.port ⟨index.toNat, h.1⟩).state ≠ .off then deny .inUse s
    else
      match consumerOf image with
      | none => deny .badValue s
      | some (w, t) =>
        okay { Page.zero with o0 := octet w.val, o1 := octet t.val }
          (s.modPort ⟨index.toNat, h.1⟩ fun p => { p with window := w, threshold := t })
  else deny .badIndex s

/-- WRITE by table code: no table, a read-only table, or the owner's tests (R155). -/
def opWrite (table : Byte) (index : Half) (page : Byte) (image : Page) (s : State) : Answer :=
  match tableOf table with
  | none => deny .badTable s
  | some t =>
    match t with
    | .device => opWriteDevice index page image s
    | .steering bank => opWriteSteering bank index page image s
    | .classConfig => opWriteClass index page image s
    | .consumerConfig => opWriteConsumer index page image s
    | .classCounts => deny .readOnly s
    | .consumerCounts => deny .readOnly s
    | .level => deny .readOnly s
    | .store => deny .readOnly s
    | .status => deny .readOnly s
    | .linkCounts => deny .readOnly s

/-! ## Steering, classes, consumers -/

/-- The other bank. -/
def otherBank (x : Bank) : Bank :=
  match x with
  | .a => .b
  | .b => .a

/-- SWAP (R29). -/
def opSwap (s : State) : Answer :=
  if s.frozen then deny .frozen s
  else okay (data1 (bankCode (otherBank s.activeBank))) { s with activeBank := otherBank s.activeBank }

/-- CLASS_ENABLE of class `k` (R71). -/
def enableClass (k : ClassIdx) (s : State) : Answer :=
  match (s.cls k).state with
  | .disabled =>
    if (s.cls k).config.group = 0 then deny .badValue s
    else okay (data1 ClassState.enabled.code) (s.modClass k fun c => { c with state := .enabled })
  | .draining => okay (data1 ClassState.enabled.code) (s.modClass k fun c => { c with state := .enabled, purge := false })
  | .enabled => okay (data1 ClassState.enabled.code) s

/-- CLASS_ENABLE (R71). -/
def opClassEnable (index : Half) (s : State) : Answer :=
  if h : index.toNat < 32 then enableClass ⟨index.toNat, h⟩ s else deny .badIndex s

/-- Steps 1 to 3 of a CLASS_DISABLE that closes or purges a class (R72, R73): the class is DRAINING with the purge flag
given, a purge abandons its queue from head to tail, and a class that holds nothing ends its drain. -/
def closeClass (k : ClassIdx) (purge : Bool) (s : State) : State :=
  let t := s.modClass k fun c => { c with state := .draining, purge := purge }
  drainCheck k (if purge then abandonAll (t.queue k) .purged t else t)

/-- The data of a CLASS_DISABLE: the class state after it and the number of records abandoned (R173). -/
def disableData (k : ClassIdx) (n : Nat) (s : State) : Page :=
  { Page.zero with o0 := (s.cls k).state.code, o1 := hiOctet (half n), o2 := loOctet (half n) }

/-- CLASS_DISABLE of class `k` (R72, R73). -/
def disableClass (k : ClassIdx) (purge : Bool) (s : State) : Answer :=
  match (s.cls k).state with
  | .disabled => okay (disableData k 0 s) s
  | .enabled =>
    let t := closeClass k purge s
    okay (disableData k (if purge then (s.queue k).length else 0) t) (placeNotice t)
  | .draining =>
    if purge then
      let t := closeClass k true s
      okay (disableData k (s.queue k).length t) (placeNotice t)
    else okay (disableData k 0 s) s

/-- CLASS_DISABLE (R72): the index test first, then the purge flag. -/
def opClassDisable (index : Half) (flag : Byte) (s : State) : Answer :=
  if h : index.toNat < 32 then
    match flagOf flag with
    | none => deny .badValue s
    | some purge => disableClass ⟨index.toNat, h⟩ purge s
  else deny .badIndex s

/-- The state of a consumer in service whose link is in a state: WAITING when it is UP, else DETACHED (R88, R104). -/
def inService (x : LinkState) : ConsumerState :=
  match x with
  | .up => .waiting
  | .aligning => .detached
  | .down => .detached

/-- CONSUMER_ENABLE of consumer `n` (R88). -/
def enableConsumer (n : ConsumerIdx) (s : State) : Answer :=
  match (s.port n).state with
  | .off =>
    okay (data1 (inService (s.link (.consumer n)).state).code)
      (s.modPort n fun p => { p with state := inService (s.link (.consumer n)).state })
  | .detached => okay (data1 ConsumerState.detached.code) s
  | .waiting => okay (data1 ConsumerState.waiting.code) s
  | .active => okay (data1 ConsumerState.active.code) s
  | .suspect => okay (data1 ConsumerState.suspect.code) s

/-- CONSUMER_ENABLE (R88). -/
def opConsumerEnable (index : Half) (s : State) : Answer :=
  if h : index.toNat < 6 then enableConsumer ⟨index.toNat, h⟩ s else deny .badIndex s

/-- The port of a consumer that is disabled: OFF, its records returned or abandoned, its slots emptied; a cell on the wire
is finished (R94). -/
def portDisable (n : ConsumerIdx) (s : State) : State :=
  (returnAll n (s.modPort n fun p => { p with state := .off })).modPort n fun p =>
    { p with responseSlot := none, noticeSlot := none }

/-- CONSUMER_DISABLE of consumer `n` (R94). -/
def disableConsumer (n : ConsumerIdx) (s : State) : Answer :=
  if (s.port n).state = .off then okay (data1 ConsumerState.off.code) s
  else
    okay { Page.zero with
        o0 := ConsumerState.off.code, o1 := octet (returnedOf s n).length, o2 := octet (purgedOf s n).length }
      (placeNotice (portDisable n s))

/-- CONSUMER_DISABLE (R94). -/
def opConsumerDisable (index : Half) (s : State) : Answer :=
  if h : index.toNat < 6 then disableConsumer ⟨index.toNat, h⟩ s else deny .badIndex s

/-! ## Time, log, counters, freezing -/

/-- SET_TIME: the Timebase is loaded and the value just before the load returned (R40). -/
def opSetTime (value : Stamp) (s : State) : Answer :=
  okay { Page.zero with
      o0 := stampOctet s.timebase 0, o1 := stampOctet s.timebase 1, o2 := stampOctet s.timebase 2
      o3 := stampOctet s.timebase 3 }
    { s with timebase := value }

/-- TAKE_LOG: page 0 and page 1 read the oldest entry, page 2 reads and removes it (R139). -/
def opTakeLog (index : Half) (page : Byte) (s : State) : Answer :=
  if index = 0 ∧ page.toNat ≤ 2 then
    match s.log with
    | [] => deny .empty s
    | e :: rest =>
      match takeLogPage s e rest.length page.toNat with
      | none => deny .badIndex s
      | some p => okay p (if page.toNat = 2 then { s with log := rest } else s)
  else deny .badIndex s

/-- A class with its five counters at 0 (R82). -/
def ClassRecord.cleared (c : ClassRecord) : ClassRecord :=
  { c with accepted := 0, refused := 0, coalesced := 0, completed := 0, abandoned := 0 }

/-- A port with its eight counters at 0 (R102). -/
def Port.cleared (p : Port) : Port :=
  { p with
    deliversSent := 0, acksTaken := 0, busyNacks := 0, rejects := 0, expiries := 0, staleTags := 0, overruns := 0
    replays := 0 }

/-- A link with its three counters at 0 (R171). -/
def Link.cleared (x : Link) : Link := { x with badCells := 0, malformed := 0, discarded := 0 }

/-- CLEAR_COUNTS (R158). -/
def opClearCounts (s : State) : Answer :=
  okay Page.zero
    { s with
      classes := Tab.each s.classes ClassRecord.cleared
      ports := Tab.each s.ports Port.cleared
      links := Tab.each s.links Link.cleared
      malformedTotal := 0
      unmatched := 0 }

/-- FREEZE (R159). -/
def opFreeze (s : State) : Answer := okay (data1 1) { s with frozen := true }

end Sys2Proof.Machine
end

