-- ==== Sys2Proof/Machine/Management.lean ====
section
/-! DEFINITION. The meaning of every management request (chapter 10), one definition for each row, and the lease timer's
expiry. -/

namespace Sys2Proof.Machine

/-- BAD_OP (R149). -/
def execBadOp (c : Fin 6) (seq : Byte) (_op : Byte) (s : State) : Result := .next (request c seq (deny .badOp) s)

/-- CLAIM (R150). -/
def execClaim (c : Fin 6) (seq : Byte) (s : State) : Result := .next (request c seq (opClaim c) s)

/-- RELEASE (R151). -/
def execRelease (c : Fin 6) (seq : Byte) (s : State) : Result := .next (request c seq (holderOnly c opRelease) s)

/-- READ (R154). -/
def execRead (c : Fin 6) (seq table : Byte) (index : Half) (page : Byte) (s : State) : Result :=
  .next (request c seq (opRead table index page) s)

/-- WRITE naming a table that is unknown or read-only (R155). -/
def execWrite (c : Fin 6) (seq table : Byte) (index : Half) (page : Byte) (image : Page) (s : State) : Result :=
  .next (request c seq (holderOnly c (opWrite table index page image)) s)

/-- WRITE of DEVICE (R156). -/
def execWriteDevice (c : Fin 6) (seq : Byte) (index : Half) (page : Byte) (image : Page) (s : State) : Result :=
  .next (request c seq (holderOnly c (opWriteDevice index page image)) s)

/-- WRITE of STEERING_A or STEERING_B (R31). -/
def execWriteSteering (c : Fin 6) (seq : Byte) (bank : Bank) (index : Half) (page : Byte) (image : Page) (s : State) :
    Result :=
  .next (request c seq (holderOnly c (opWriteSteering bank index page image)) s)

/-- WRITE of CLASS (R78). -/
def execWriteClass (c : Fin 6) (seq : Byte) (index : Half) (page : Byte) (image : Page) (s : State) : Result :=
  .next (request c seq (holderOnly c (opWriteClass index page image)) s)

/-- WRITE of CONSUMER (R100). -/
def execWriteConsumer (c : Fin 6) (seq : Byte) (index : Half) (page : Byte) (image : Page) (s : State) : Result :=
  .next (request c seq (holderOnly c (opWriteConsumer index page image)) s)

/-- SWAP (R29). -/
def execSwap (c : Fin 6) (seq : Byte) (s : State) : Result := .next (request c seq (holderOnly c opSwap) s)

/-- CLASS_ENABLE (R71). -/
def execClassEnable (c : Fin 6) (seq : Byte) (index : Half) (s : State) : Result :=
  .next (request c seq (holderOnly c (opClassEnable index)) s)

/-- CLASS_DISABLE (R72, R73). -/
def execClassDisable (c : Fin 6) (seq : Byte) (index : Half) (flag : Byte) (s : State) : Result :=
  .next (request c seq (holderOnly c (opClassDisable index flag)) s)

/-- CONSUMER_ENABLE (R88). -/
def execConsumerEnable (c : Fin 6) (seq : Byte) (index : Half) (s : State) : Result :=
  .next (request c seq (holderOnly c (opConsumerEnable index)) s)

/-- CONSUMER_DISABLE (R94). -/
def execConsumerDisable (c : Fin 6) (seq : Byte) (index : Half) (s : State) : Result :=
  .next (request c seq (holderOnly c (opConsumerDisable index)) s)

/-- SET_TIME (R40). -/
def execSetTime (c : Fin 6) (seq : Byte) (value : Stamp) (s : State) : Result :=
  .next (request c seq (holderOnly c (opSetTime value)) s)

/-- TAKE_LOG (R139). -/
def execTakeLog (c : Fin 6) (seq : Byte) (index : Half) (page : Byte) (s : State) : Result :=
  .next (request c seq (holderOnly c (opTakeLog index page)) s)

/-- CLEAR_COUNTS (R158). -/
def execClearCounts (c : Fin 6) (seq : Byte) (s : State) : Result := .next (request c seq (holderOnly c opClearCounts) s)

/-- FREEZE (R159). -/
def execFreeze (c : Fin 6) (seq : Byte) (s : State) : Result := .next (request c seq (holderOnly c opFreeze) s)

/-- LEASE_TIMER_EXPIRY: the timer has run out while the lease is HELD, and the lease becomes FREE (R152); otherwise no such
event happens (log 5). -/
def execLeaseTimerExpiry (s : State) : Result :=
  .next
    (match s.lease with
    | none => s
    | some l => if l.remaining = 0 then { s with lease := none } else s)

end Sys2Proof.Machine
end

