-- ==== Sys2Proof/Machine/Restart.lean ====
section
/-! DEFINITION. The soft restart: its beginning at every block (R160) and its end (R162). -/

namespace Sys2Proof.Machine

/-- A record at a soft restart: FREE, with its generation advanced if it was not FREE (R21). -/
def EventRecord.emptied (e : EventRecord) : EventRecord :=
  match e.place with
  | .free => { EventRecord.por with generation := e.generation }
  | .pending _ => e.freed
  | .queued _ _ => e.freed
  | .awaiting _ _ _ => e.freed

/-- A transmitter's wire at a soft restart: a DELIVER on it is finished, and its record is gone (R98, R161). -/
def Wire.emptied (w : Wire) : Wire :=
  match w with
  | .quiet => .quiet
  | .finishing d => .finishing d
  | .sending c =>
    match c with
    | .deliver d => .finishing d
    | .idle => .sending .idle
    | .hold => .sending .hold
    | .go => .sending .go
    | .response x => .sending (.response x)
    | .notice x => .sending (.notice x)

/-- The state of a class after a soft restart with retain: ENABLED stays, DRAINING becomes DISABLED (R84). -/
def ClassState.kept (x : ClassState) : ClassState :=
  match x with
  | .enabled => .enabled
  | .draining => .disabled
  | .disabled => .disabled

/-- A class record at a soft restart (R84). -/
def ClassRecord.restarted (retain : Bool) (c : ClassRecord) : ClassRecord :=
  if retain then { ClassRecord.por with config := c.config, state := c.state.kept } else ClassRecord.por

/-- The state of a consumer after a soft restart with retain, by its link's state (R104). -/
def ConsumerState.kept (x : ConsumerState) (l : LinkState) : ConsumerState :=
  match x with
  | .off => .off
  | .detached => inService l
  | .waiting => inService l
  | .active => inService l
  | .suspect => inService l

/-- A port at a soft restart: response slot and replay record stand until the end (R104). -/
def Port.restarted (retain : Bool) (l : LinkState) (p : Port) : Port :=
  if retain then
    { Port.por with
      window := p.window, threshold := p.threshold, state := p.state.kept l, responseSlot := p.responseSlot
      replay := p.replay }
  else { Port.por with responseSlot := p.responseSlot, replay := p.replay }

/-- The six ports at a soft restart, each by its own link. -/
def restartPorts (retain : Bool) (s : State) : Tab Port 6 :=
  allConsumers.foldl (fun t c => Tab.upd t c (Port.restarted retain (s.link (.consumer c)).state)) s.ports

/-- Every block takes its part in a soft restart in one transition (R160). The frozen flag, the Timebase and the link states
are not changed. -/
def emptyBlocks (job : RestartJob) (s : State) : State :=
  let keep := job.retain
  { s with
    restart := some job
    restartCount := satUp s.restartCount
    lease := none
    device := if keep then s.device else Device.por
    records := Tab.each s.records EventRecord.emptied
    freeList := allRecords
    queues := Tab.all 32 []
    bankA := if keep then s.bankA else Tab.all 64 SteerEntry.por
    bankB := if keep then s.bankB else Tab.all 64 SteerEntry.por
    activeBank := if keep then s.activeBank else .a
    unmatched := 0
    lastUnmatched := none
    hold := .asserted
    levels := Tab.all 4096 LevelEntry.por
    classes := Tab.each s.classes (ClassRecord.restarted keep)
    ports := restartPorts keep s
    grantOrder := allConsumers
    pointers := Tab.all 4 0
    log := []
    overwrites := 0
    nextEntry := 0
    notices := NoticeSet.none
    links := Tab.each s.links fun x => { x.cleared with wire := x.wire.emptied }
    malformedTotal := 0 }

/-- A soft restart that is taken. Steering takes every cell passed on, and none during a restart (R25), so the cells that it
has not yet taken are taken first and handled in full, as R64 has it of a report that is taken first (log 23). -/
def beginRestart (job : RestartJob) (s : State) : State := emptyBlocks job (catchUpAll s)

/-- RESTART: the retain flag is tested, then the frozen flag (R160). -/
def opRestart (c : ConsumerIdx) (seq flag : Byte) (s : State) : Answer :=
  match flagOf flag with
  | none => deny .badValue s
  | some retain =>
    if s.frozen ∧ retain = false then deny .frozen s else ⟨beginRestart ⟨c, seq, retain⟩ s, none⟩

/-- RESTART (R160). -/
def execRestart (c : Fin 6) (seq flag : Byte) (s : State) : Result :=
  .next (request c seq (holderOnly c (opRestart c seq flag)) s)

/-- The RESTART response (R162, R173). -/
def restartResponse (job : RestartJob) (s : State) : Response where
  seq := job.seq
  status := .ok
  data := { Page.zero with
    o0 := hiOctet s.restartCount, o1 := loOctet s.restartCount, o2 := flagOctet job.retain }

/-- The end of a soft restart (R162): the response is placed if the requester's link is UP, it becomes the requester's
replay record and every other becomes absent, and the hold rule is applied with the restart over (R54). -/
def finishRestart (job : RestartJob) (s : State) : State :=
  let r := restartResponse job s
  let cleared := { s with ports := Tab.each s.ports fun p => { p with replay := none } }
  let stored := cleared.modPort job.requester fun p => { p with replay := some r }
  let placed := if (s.link (.consumer job.requester)).state = .up then placeResponse job.requester r stored else stored
  applyHold { placed with restart := none }

/-- END_OF_RESTART: with no restart in progress no such event happens (R162). -/
def execEndOfRestart (s : State) : Result :=
  .next
    (match s.restart with
    | none => s
    | some job => finishRestart job s)

end Sys2Proof.Machine
end

