-- ==== Sys2Proof/Machine/Dispatch.lean ====
section
/-! DEFINITION. One arm for each command: the command's effect on everything but the queue. -/

namespace Sys2Proof.Machine

def exec (i : Instr) (s : State) : Host.Outcome State Fault Refusal :=
  match i with
  | .por => Sys2Proof.Machine.execPor s
  | .resetRelease => Sys2Proof.Machine.execResetRelease s
  | .signalPresent l => Sys2Proof.Machine.execSignalPresent l s
  | .lossOfSignal l => Sys2Proof.Machine.execLossOfSignal l s
  | .goodCellAligning l => Sys2Proof.Machine.execGoodCellAligning l s
  | .badCell l => Sys2Proof.Machine.execBadCell l s
  | .malformedCell l => Sys2Proof.Machine.execMalformedCell l s
  | .idle l => Sys2Proof.Machine.execIdle l s
  | .event n m ch kind datum => Sys2Proof.Machine.execEvent n m ch kind datum s
  | .ack c tags => Sys2Proof.Machine.execAck c tags s
  | .nackBusy c tag => Sys2Proof.Machine.execNackBusy c tag s
  | .nackReject c tag => Sys2Proof.Machine.execNackReject c tag s
  | .load c level => Sys2Proof.Machine.execLoad c level s
  | .expiry r => Sys2Proof.Machine.execExpiry r s
  | .grant => Sys2Proof.Machine.execGrant s
  | .cellSlot l => Sys2Proof.Machine.execCellSlot l s
  | .sendCompletion c => Sys2Proof.Machine.execSendCompletion c s
  | .leaseTimerExpiry => Sys2Proof.Machine.execLeaseTimerExpiry s
  | .badOp c seq op => Sys2Proof.Machine.execBadOp c seq op s
  | .claim c seq => Sys2Proof.Machine.execClaim c seq s
  | .release c seq => Sys2Proof.Machine.execRelease c seq s
  | .read c seq table index page => Sys2Proof.Machine.execRead c seq table index page s
  | .write c seq table index page image => Sys2Proof.Machine.execWrite c seq table index page image s
  | .writeDevice c seq index page image => Sys2Proof.Machine.execWriteDevice c seq index page image s
  | .writeSteering c seq bank index page image => Sys2Proof.Machine.execWriteSteering c seq bank index page image s
  | .writeClass c seq index page image => Sys2Proof.Machine.execWriteClass c seq index page image s
  | .writeConsumer c seq index page image => Sys2Proof.Machine.execWriteConsumer c seq index page image s
  | .swap c seq => Sys2Proof.Machine.execSwap c seq s
  | .classEnable c seq index => Sys2Proof.Machine.execClassEnable c seq index s
  | .classDisable c seq index flag => Sys2Proof.Machine.execClassDisable c seq index flag s
  | .consumerEnable c seq index => Sys2Proof.Machine.execConsumerEnable c seq index s
  | .consumerDisable c seq index => Sys2Proof.Machine.execConsumerDisable c seq index s
  | .setTime c seq value => Sys2Proof.Machine.execSetTime c seq value s
  | .takeLog c seq index page => Sys2Proof.Machine.execTakeLog c seq index page s
  | .clearCounts c seq => Sys2Proof.Machine.execClearCounts c seq s
  | .freeze c seq => Sys2Proof.Machine.execFreeze c seq s
  | .restart c seq flag => Sys2Proof.Machine.execRestart c seq flag s
  | .endOfRestart => Sys2Proof.Machine.execEndOfRestart s
  | .timebaseCount => Sys2Proof.Machine.execTimebaseCount s

end Sys2Proof.Machine
end

