-- ==== Sys2Proof/Safety.lean ====
section
/-! DEFINITION. What counts as a sound state: the laws that the spec says the part keeps, each named; and the words in
which claims speak of commands: the link a cell arrives on, the sender of a request. -/

namespace Sys2Proof.Machine

/-! ## The laws of the state -/

/-- R2, R4, R6, R87: every record stands in exactly the collection of its state (the free list, the queue of its class, the
transmit queue or the awaiting list of its consumer), and no collection holds a record twice. -/
structure Placed (s : State) : Prop where
  free : ∀ r, (s.rcd r).place = .free ↔ r ∈ s.freeList
  pending : ∀ r k, (s.rcd r).place = .pending k ↔ r ∈ s.queue k
  queued : ∀ r c, (∃ k, (s.rcd r).place = .queued k c) ↔ r ∈ (s.port c).tx.map (·.tag.index)
  awaiting : ∀ r c, (∃ k d, (s.rcd r).place = .awaiting k c d) ↔ r ∈ (s.port c).waitingAck
  freeOnce : s.freeList.Nodup
  queueOnce : ∀ k, (s.queue k).Nodup
  txOnce : ∀ c, ((s.port c).tx.map (·.tag.index)).Nodup
  awaitingOnce : ∀ c, (s.port c).waitingAck.Nodup

/-- The record is dispatched and of class `k`. -/
def Place.dispatchedIn (p : Place) (k : ClassIdx) : Bool :=
  match p with
  | .free => false
  | .pending _ => false
  | .queued j _ => j == k
  | .awaiting j _ _ => j == k

/-- The number of records of class `k` in QUEUED or AWAITING. -/
def dispatchedOf (s : State) (k : ClassIdx) : Nat := s.records.toList.countP fun e => e.place.dispatchedIn k

/-- R6, R69, R86, R87: the counts that the Class Table and the Consumer Ports keep are those of the Event Store. -/
structure Counted (s : State) : Prop where
  pendingCount : ∀ k, (s.cls k).pendingCount = (s.queue k).length
  dispatchedCount : ∀ k, (s.cls k).dispatchedCount = dispatchedOf s k
  dispatched : ∀ c, (s.port c).dispatched = (s.port c).tx.length + (s.port c).waitingAck.length

/-- R76: a DISABLED class holds no record, and a purge flag stands in DRAINING alone (R69). -/
def ClassesLawful (s : State) : Prop :=
  ∀ k, ((s.cls k).state = .disabled → s.holding k = 0) ∧ ((s.cls k).purge = true → (s.cls k).state = .draining)

/-- R92: a consumer that is neither ACTIVE nor SUSPECT has no dispatched record. -/
def PortsLawful (s : State) : Prop :=
  ∀ c, (s.port c).state = .active ∨ (s.port c).state = .suspect ∨ (s.port c).dispatched = 0

/-- R70: no class holds more than its pending limit. R87: no consumer holds more than its window. R109: a SERIAL class has at
most one dispatched record. -/
structure WithinLimits (s : State) : Prop where
  pendingLimit : ∀ k, s.holding k ≤ (s.cls k).config.pendingLimit.val
  window : ∀ c, (s.port c).dispatched ≤ (s.port c).window.val
  serial : ∀ k, (s.cls k).config.order = .serial → (s.cls k).dispatchedCount ≤ 1

/-- R125: a record that is not FREE has failed attempts below the attempt limit of its class. -/
def AttemptsBelowLimit (s : State) : Prop :=
  ∀ r k, (s.rcd r).place.cls = some k → (s.rcd r).failed.toNat < (s.cls k).config.attemptLimit.val

/-- R63: a pending record of a Level Image entry is a PENDING, never-dispatched LEVEL record of that entry's channel. -/
def PointersLawful (s : State) : Prop :=
  ∀ i : Fin 4096, ∀ r, (Tab.nth s.levels i).pendingRec = some r →
    (∃ k, (s.rcd r).place = .pending k) ∧ (s.rcd r).neverDispatched = true ∧ (s.rcd r).kind = .level ∧
      levelIndex (s.rcd r).addr = i

/-- R105: the Grant Order List holds each consumer exactly once. -/
def GrantOrderLawful (s : State) : Prop := s.grantOrder.Perm allConsumers

/-- R138: the Abandon Log holds at most 16 entries. -/
def LogWithinCapacity (s : State) : Prop := s.log.length ≤ 16

/-- R150: a lease holder's link is UP. -/
def HolderLinkUp (s : State) : Prop := ∀ x, s.lease = some x → (s.link (.consumer x.holder)).state = .up

/-- R164: an alignment count runs in ALIGNING alone, a bad-cell run in UP alone. -/
def LinkCountsLawful (s : State) : Prop :=
  ∀ l, ((s.link l).state ≠ .aligning → (s.link l).alignCount = 0) ∧ ((s.link l).state ≠ .up → (s.link l).badRun = 0)

/-- The DEVICE record's fields lie in their ranges (R156). -/
def DeviceLawful (d : Device) : Prop := 1 ≤ d.leasePeriod.val ∧ 8 ≤ d.low.val ∧ d.low.val < d.high.val

/-- A class configuration's fields lie in their ranges (R68). -/
def ConfigLawful (g : ClassConfig) : Prop :=
  1 ≤ g.ackDeadline.val ∧ 1 ≤ g.attemptLimit.val ∧ 1 ≤ g.confirmCount.val ∧ 1 ≤ g.pendingLimit.val

/-- R23, R68, R85, R156: every configuration that a WRITE can load lies in the range that the spec gives it. -/
structure Configured (s : State) : Prop where
  device : DeviceLawful s.device
  classes : ∀ k, ConfigLawful (s.cls k).config
  ports : ∀ c, 1 ≤ (s.port c).window.val ∧ 1 ≤ (s.port c).threshold.val
  bankA : ∀ i, steerValid (Tab.nth s.bankA i) = true
  bankB : ∀ i, steerValid (Tab.nth s.bankB i) = true

/-- R49: hold is RELEASED only with the free count at or above the low watermark, and ASSERTED only with it below the high
watermark or a restart in progress. -/
def HoldLawful (s : State) : Prop :=
  (s.hold = .released → s.device.low.val ≤ s.freeCount) ∧
    (s.hold = .asserted → s.freeCount < s.device.high.val ∨ s.restart ≠ none)

/-- R142: no NOTICE waits to be built while the set is not empty, a consumer holds the lease and its slot is empty. -/
def NoticesPlaced (s : State) : Prop :=
  s.notices = NoticeSet.none ∨ s.lease = none ∨ ∃ x, s.lease = some x ∧ (s.port x.holder).noticeSlot ≠ none

/-- R86, R89, R93: a consumer in WAITING, ACTIVE or SUSPECT has its link UP, a DETACHED one has it not UP. -/
def PortsFollowLinks (s : State) : Prop :=
  ∀ c, ((s.port c).state = .detached → (s.link (.consumer c)).state ≠ .up) ∧
    ((s.port c).state = .waiting ∨ (s.port c).state = .active ∨ (s.port c).state = .suspect →
      (s.link (.consumer c)).state = .up)

/-- R65, R161, R168: cells that Steering has not yet taken are EVENT cells of their own link, well formed, on a link that is
UP, with no restart in progress. -/
def HandedLawful (s : State) : Prop :=
  ∀ n x, x ∈ Tab.nth s.handed n →
    x.addr.link = n ∧ datumOk x.kind x.datum = true ∧ (s.link (.source n)).state = .up ∧ s.restart = none

/-! ## The commands that claims speak of -/

/-- The link on which a good or malformed cell arrives, for the commands that are received cells. -/
def cellLink (i : Instr) : Option LinkId :=
  match i with
  | .malformedCell l => some l
  | .idle l => some l
  | .event n _ _ _ _ => some (.source n)
  | .ack c _ => some (.consumer c)
  | .nackBusy c _ => some (.consumer c)
  | .nackReject c _ => some (.consumer c)
  | .load c _ => some (.consumer c)
  | .badOp c _ _ => some (.consumer c)
  | .claim c _ => some (.consumer c)
  | .release c _ => some (.consumer c)
  | .read c _ _ _ _ => some (.consumer c)
  | .write c _ _ _ _ _ => some (.consumer c)
  | .writeDevice c _ _ _ _ => some (.consumer c)
  | .writeSteering c _ _ _ _ _ => some (.consumer c)
  | .writeClass c _ _ _ _ => some (.consumer c)
  | .writeConsumer c _ _ _ _ => some (.consumer c)
  | .swap c _ => some (.consumer c)
  | .classEnable c _ _ => some (.consumer c)
  | .classDisable c _ _ _ => some (.consumer c)
  | .consumerEnable c _ _ => some (.consumer c)
  | .consumerDisable c _ _ => some (.consumer c)
  | .setTime c _ _ => some (.consumer c)
  | .takeLog c _ _ _ => some (.consumer c)
  | .clearCounts c _ => some (.consumer c)
  | .freeze c _ => some (.consumer c)
  | .restart c _ _ => some (.consumer c)
  | .por => none
  | .resetRelease => none
  | .signalPresent _ => none
  | .lossOfSignal _ => none
  | .goodCellAligning _ => none
  | .badCell _ => none
  | .expiry _ => none
  | .grant => none
  | .cellSlot _ => none
  | .sendCompletion _ => none
  | .leaseTimerExpiry => none
  | .endOfRestart => none
  | .timebaseCount => none

/-- The sender and the sequence number of a request. -/
def requestOf (i : Instr) : Option (ConsumerIdx × Byte) :=
  match i with
  | .badOp c seq _ => some (c, seq)
  | .claim c seq => some (c, seq)
  | .release c seq => some (c, seq)
  | .read c seq _ _ _ => some (c, seq)
  | .write c seq _ _ _ _ => some (c, seq)
  | .writeDevice c seq _ _ _ => some (c, seq)
  | .writeSteering c seq _ _ _ _ => some (c, seq)
  | .writeClass c seq _ _ _ => some (c, seq)
  | .writeConsumer c seq _ _ _ => some (c, seq)
  | .swap c seq => some (c, seq)
  | .classEnable c seq _ => some (c, seq)
  | .classDisable c seq _ _ => some (c, seq)
  | .consumerEnable c seq _ => some (c, seq)
  | .consumerDisable c seq _ => some (c, seq)
  | .setTime c seq _ => some (c, seq)
  | .takeLog c seq _ _ => some (c, seq)
  | .clearCounts c seq => some (c, seq)
  | .freeze c seq => some (c, seq)
  | .restart c seq _ => some (c, seq)
  | .por => none
  | .resetRelease => none
  | .signalPresent _ => none
  | .lossOfSignal _ => none
  | .goodCellAligning _ => none
  | .badCell _ => none
  | .malformedCell _ => none
  | .idle _ => none
  | .event _ _ _ _ _ => none
  | .ack _ _ => none
  | .nackBusy _ _ => none
  | .nackReject _ _ => none
  | .load _ _ => none
  | .expiry _ => none
  | .grant => none
  | .cellSlot _ => none
  | .sendCompletion _ => none
  | .leaseTimerExpiry => none
  | .endOfRestart => none
  | .timebaseCount => none

/-- The request needs the lease (R149). -/
def needsLease (i : Instr) : Bool :=
  match i with
  | .badOp _ _ _ => false
  | .claim _ _ => false
  | .read _ _ _ _ _ => false
  | _ => (requestOf i).isSome

/-- A request of consumer `c` with this seq is taken and carried out (R147): its link is UP, no restart is in progress, its
response slot is empty and its replay record does not hold the seq. -/
structure Carried (s : State) (c : ConsumerIdx) (seq : Byte) : Prop where
  up : (s.link (.consumer c)).state = .up
  noRestart : s.restart = none
  slotEmpty : (s.port c).responseSlot = none
  notReplay : ∀ r, (s.port c).replay = some r → r.seq ≠ seq

/-! ## What else changes -/

/-- No link but `l` differs. -/
def OnlyLink (l : LinkId) (s t : State) : Prop := ∀ m, m ≠ l → t.link m = s.link m

/-- No record but `r` differs. -/
def OnlyRecord (r : RecIdx) (s t : State) : Prop := ∀ q, q ≠ r → t.rcd q = s.rcd q

/-- No class record but that of `k` differs. -/
def OnlyClass (k : ClassIdx) (s t : State) : Prop := ∀ j, j ≠ k → t.cls j = s.cls j

/-- No class queue but that of `k` differs. -/
def OnlyQueue (k : ClassIdx) (s t : State) : Prop := ∀ j, j ≠ k → t.queue j = s.queue j

/-- No port but that of `c` differs. -/
def OnlyPort (c : ConsumerIdx) (s t : State) : Prop := ∀ d, d ≠ c → t.port d = s.port d

/-- No port but that of `c` differs in more than its notice slot. -/
def OtherPorts (c : ConsumerIdx) (s t : State) : Prop :=
  ∀ d, d ≠ c → t.port d = { s.port d with noticeSlot := (t.port d).noticeSlot }

/-- No port differs in more than its notice slot. -/
def SamePorts (s t : State) : Prop := ∀ d, t.port d = { s.port d with noticeSlot := (t.port d).noticeSlot }

/-- A link after a good cell in UP: any bad-cell run is over (R164, R165). -/
def Link.heard (x : Link) : Link := { x with alignCount := 0, badRun := 0 }

/-- Link `l` has heard a good cell, and no link differs otherwise. -/
def GoodCell (l : LinkId) (s t : State) : Prop := t.link l = (s.link l).heard ∧ OnlyLink l s t

/-! ## What the shared rules give -/

/-- The hold state that R49 gives for a free count, with the watermarks of `s`. -/
def holdNext (s : State) (free : Nat) : HoldState :=
  match s.hold with
  | .released => if free < s.device.low.val then .asserted else .released
  | .asserted => if s.device.high.val ≤ free ∧ s.restart = none then .released else .asserted

/-- The free count asserts hold, which raises the hold kind (R51). -/
def holdRaises (s : State) (free : Nat) : Bool := s.hold == .released && decide (free < s.device.low.val)

/-- The class record after the drain rule (R76). -/
def ClassRecord.drained (x : ClassRecord) : ClassRecord :=
  if x.state = .draining ∧ x.pendingCount + x.dispatchedCount = 0 then { x with state := .disabled, purge := false } else x

/-- The drain rule ends the drain, which raises CLASS_IDLE (R76). -/
def ClassRecord.drainEnds (x : ClassRecord) : Bool :=
  x.state == .draining && decide (x.pendingCount + x.dispatchedCount = 0)

/-- A NOTICE is due at the end of a transition of `s` that leaves the set `n` (R142). -/
def noticeDue (n : NoticeSet) (s : State) : Bool :=
  decide (n ≠ NoticeSet.none) &&
    match s.lease with
    | none => false
    | some x => (s.port x.holder).noticeSlot.isNone

/-- From `s` to `t` the Notice Unit has tested with the set `n`: a NOTICE that is due stands in the holder's slot with the
log occupancy of `t`, and the set is empty; else the set is `n` and no slot differs (R142). -/
def NoticeTest (n : NoticeSet) (s t : State) : Prop :=
  (noticeDue n s = true →
    t.notices = NoticeSet.none ∧
      ∀ c, (t.port c).noticeSlot =
        if s.holds c then some ⟨n.abandon, t.log.length, n.suspects, n.idle, n.hold⟩ else (s.port c).noticeSlot) ∧
  (noticeDue n s = false → t.notices = n ∧ ∀ c, (t.port c).noticeSlot = (s.port c).noticeSlot)

/-- Record `r` has been freed: it holds POR values but for its generation, and stands at the tail of the free list (R5). -/
def FreedRecord (r : RecIdx) (s t : State) : Prop :=
  t.rcd r = { EventRecord.por with generation := (s.rcd r).generation + 1 } ∧ OnlyRecord r s t ∧
    t.freeList = s.freeList ++ [r]

/-- The Abandon Log has taken the entry `e`, which carries the next entry number; a full log has dropped its oldest entry
(R138). -/
def LogTakes (e : LogEntry) (s t : State) : Prop :=
  t.nextEntry = s.nextEntry + 1 ∧
    (s.log.length < 16 → t.log = s.log ++ [e] ∧ t.overwrites = s.overwrites) ∧
    (16 ≤ s.log.length → t.log = s.log.tail ++ [e] ∧ t.overwrites = satUp s.overwrites)

/-- The pointer of the record's own channel no longer names record `r`, and no entry differs otherwise (R63). -/
def PointerCleared (r : RecIdx) (s t : State) : Prop :=
  ∀ b, t.level b =
    if b = (s.rcd r).addr ∧ (s.level b).pendingRec = some r then { s.level b with pendingRec := none } else s.level b

/-- Record `r` is dispatched to consumer `c` and is of class `k`. -/
def DispatchedTo (s : State) (r : RecIdx) (k : ClassIdx) (c : ConsumerIdx) : Prop :=
  (s.rcd r).place = .queued k c ∨ ∃ d, (s.rcd r).place = .awaiting k c d

/-- The acceptance test of R16 holds for the tag from consumer `c`, for a record of class `k`. -/
def Accepted (s : State) (c : ConsumerIdx) (tag : Tag) (k : ClassIdx) : Prop :=
  DispatchedTo s tag.index k c ∧ (s.rcd tag.index).generation = tag.generation

/-- Steering has taken every cell that the receiver of link `l` has passed on. -/
def CaughtUp (s : State) (l : LinkId) : Prop := ∀ n, l = .source n → Tab.nth s.handed n = []

/-- The cells of link `l` are passed on: it is UP and no restart is in progress (R168); and Steering
takes the next EVENT of a source link at once, with none before it waiting. -/
structure Passing (s : State) (l : LinkId) : Prop where
  up : (s.link l).state = .up
  noRestart : s.restart = none
  caughtUp : CaughtUp s l
  atOnce : ∀ n, l = .source n → s.late.headD false = false

/-! ## Steering and level confirmation -/

/-- The cell matches an entry of the active bank, and the one of lowest index gives class `k` (R27). -/
def RoutedTo (s : State) (a : Addr) (kind : Kind) (k : ClassIdx) : Prop :=
  ∃ i : Fin 64,
    (Tab.nth s.steering i).valid = true ∧ (Tab.nth s.steering i).holdsCell a kind = true ∧ (Tab.nth s.steering i).cls = k ∧
      ∀ j, j < i → ¬ ((Tab.nth s.steering j).valid = true ∧ (Tab.nth s.steering j).holdsCell a kind = true)

/-- No valid entry of the active bank holds the cell (R28). -/
def Unmatched (s : State) (a : Addr) (kind : Kind) : Prop :=
  ∀ i, ¬ ((Tab.nth s.steering i).valid = true ∧ (Tab.nth s.steering i).holdsCell a kind = true)

/-- An EVENT cell of an ENABLED class, passed on with its fields in range. -/
structure Offered (s : State) (x : Arrival) (k : ClassIdx) : Prop where
  passing : Passing s (.source x.addr.link)
  inRange : datumOk x.kind x.datum = true
  routed : RoutedTo s x.addr x.kind k
  enabled : (s.cls k).state = .enabled
  stamped : x.stamp = s.timebase

/-- The cell goes on to the store tests: every PULSE and VALUE cell, and a LEVEL cell with a confirmed verdict (R43). -/
def ToStore (s : State) (x : Arrival) (k : ClassIdx) : Prop :=
  x.kind = .level →
    (reportEntry s k x.addr (levelOf x.datum)).2 = true ∧
      (reportEntry s k x.addr (levelOf x.datum)).1.pendingRec = none

/-- The entry of the cell's channel after Level Confirmation has had its turn; a PULSE or VALUE cell does not reach it. -/
def levelAfter (s : State) (x : Arrival) (k : ClassIdx) : LevelEntry :=
  if x.kind = .level then (reportEntry s k x.addr (levelOf x.datum)).1 else s.level x.addr

/-- The admitted record becomes its channel's pending record (R46, R62). -/
abbrev Named (s : State) (x : Arrival) (k : ClassIdx) : Prop := x.kind = .level ∧ (s.cls k).config.coalesce = true

/-- The EVENT command of an arrival. -/
def Arrival.command (x : Arrival) : Instr := .event x.addr.link x.addr.module x.addr.channel x.kind x.datum

/-! ## Purges and returns of all -/

/-- The records of class `k` that are dispatched to consumer `c`, in grant order. -/
def grantedIn (s : State) (c : ConsumerIdx) (k : ClassIdx) : List RecIdx :=
  (grantedTo s c).filter fun r => (s.rcd r).place.cls == some k

/-- The Abandon Log entries of records of `s` abandoned with PURGED one after another, in list order (R13, R15, R137). -/
def purgeEntries (s : State) (rs : List RecIdx) : List LogEntry :=
  rs.mapIdx fun i r =>
    { number := s.nextEntry + BitVec.ofNat 8 i, cls := (s.rcd r).place.cls.getD 0, addr := (s.rcd r).addr
      kind := (s.rcd r).kind, datum := (s.rcd r).datum, arrival := (s.rcd r).stamp, abandonStamp := s.timebase
      reason := .purged, failed := (s.rcd r).failed, delivery := (s.rcd r).delivery
      superseded := (s.rcd r).superseded }

/-- The Abandon Log has taken the entries of records abandoned with PURGED in list order: it keeps the last 16, and counts
those that it dropped (R138). -/
structure LogTakesPurged (rs : List RecIdx) (s t : State) : Prop where
  log : t.log = (s.log ++ purgeEntries s rs).drop (s.log.length + rs.length - 16)
  overwrites : t.overwrites.toNat = min 255 (s.overwrites.toNat + (s.log.length + rs.length - 16))
  nextEntry : t.nextEntry = s.nextEntry + BitVec.ofNat 8 rs.length

/-- The laws under which what a claim on many records leaves is stated: each is kept by every step. -/
structure Sound (s : State) : Prop where
  placed : Placed s
  counted : Counted s
  pointers : PointersLawful s
  log : LogWithinCapacity s
  device : DeviceLawful s.device
  hold : HoldLawful s

/-- From `s` to `t` every record dispatched to consumer `c` has been returned, or abandoned with PURGED where its class is
purge-draining, uncharged, in one claim (R12, R13, R15, R75, R76, R128). -/
structure ReturnsAll (c : ConsumerIdx) (s t : State) : Prop where
  returned : ∀ r k, r ∈ grantedTo s c → (s.rcd r).place.cls = some k → s.purgeDraining k = false →
    t.rcd r = { s.rcd r with place := .pending k, tried := addTo (s.rcd r).tried c.val }
  freed : ∀ r k, r ∈ grantedTo s c → (s.rcd r).place.cls = some k → s.purgeDraining k = true →
    t.rcd r = { EventRecord.por with generation := (s.rcd r).generation + 1 }
  others : ∀ r, r ∉ grantedTo s c → t.rcd r = s.rcd r
  freeList : t.freeList = s.freeList ++ (grantedTo s c).filter (purgedHere s)
  queues : ∀ k, t.queue k = if s.purgeDraining k then s.queue k else grantedIn s c k ++ s.queue k
  keptClasses : ∀ k, s.purgeDraining k = false →
    t.cls k =
      { s.cls k with
        dispatchedCount := (s.cls k).dispatchedCount - (grantedIn s c k).length
        pendingCount := (s.cls k).pendingCount + (grantedIn s c k).length }
  emptyClasses : ∀ k, grantedIn s c k = [] → t.cls k = s.cls k
  purgedClasses : ∀ k, s.purgeDraining k = true → grantedIn s c k ≠ [] →
    ∃ n : Counter, n.toNat = min 65535 ((s.cls k).abandoned.toNat + (grantedIn s c k).length) ∧
      t.cls k =
        ({ s.cls k with
          dispatchedCount := (s.cls k).dispatchedCount - (grantedIn s c k).length, abandoned := n } :
          ClassRecord).drained
  levels : t.levels = s.levels
  log : LogTakesPurged ((grantedTo s c).filter (purgedHere s)) s t
  hold : t.hold = holdNext s t.freeCount

/-- The notices of such a claim: ABANDON if a record was abandoned, CLASS_IDLE for each class whose drain it ended; then the
Notice Unit has tested, with the lease and the slots of `u` (R15, R76, R142). -/
def ReturnNotices (c : ConsumerIdx) (s u t : State) : Prop :=
  ∃ n : NoticeSet,
    n.abandon = (s.notices.abandon || (grantedTo s c).any (purgedHere s)) ∧ n.suspects = s.notices.suspects ∧
      n.hold = s.notices.hold ∧
      (∀ k : ClassIdx, inSet n.idle k.val =
        (inSet s.notices.idle k.val ||
          decide (s.purgeDraining k = true ∧ grantedIn s c k ≠ [] ∧ (t.cls k).state = .disabled))) ∧
      NoticeTest n u t

/-- A transmitter's wire once every record dispatched to consumer `c` is withdrawn: a DELIVER of one of them is finished
(R11, R98). -/
def wireWithdrawn (s : State) (c : ConsumerIdx) : Wire :=
  (grantedTo s c).foldl Wire.withdraw (s.link (.consumer c)).wire

/-! ## Page images and cells -/

/-- A page carries a steering entry, field by field (section 11.9). -/
def CarriesEntry (p : Page) (e : SteerEntry) : Prop :=
  p.o0.toNat = (if e.valid then 1 else 0) ∧ p.o1.toNat = e.links.toNat ∧ p.o2.toNat = e.moduleLow.val ∧
    p.o3.toNat = e.moduleHigh.val ∧ p.o4.toNat = e.channelLow.val ∧ p.o5.toNat = e.channelHigh.val ∧
    p.o6.toNat = e.kinds.toNat ∧ p.o7.toNat = e.cls.val

/-- A page carries a class configuration, field by field (section 11.9). -/
def CarriesConfig (p : Page) (g : ClassConfig) : Prop :=
  p.o0.toNat = g.group.toNat ∧
    p.o1.toNat =
      (if g.mode = .primary then 1 else 0) + (if g.order = .serial then 2 else 0) + (if g.coalesce then 4 else 0) +
        (if g.policy = .displace then 8 else 0) ∧
    p.o2.toNat = g.priority.val ∧ p.o3.toNat = g.ackDeadline.val ∧ p.o4.toNat = g.attemptLimit.val ∧
    p.o5.toNat = g.confirmCount.val ∧ (be16 p.o6 p.o7).toNat = g.pendingLimit.val

/-- A polynomial over two elements as a number, bit `i` the coefficient of x^i: `q` times x^8 + x^2 + x + 1 (R166). -/
def timesGenerator (q : Nat) : Nat := q <<< 8 ^^^ (q <<< 2 ^^^ (q <<< 1 ^^^ q))

/-- Octets as one number, the first the most significant. -/
def octetsNumber (octets : List Byte) : Nat := octets.foldl (fun m o => m <<< 8 ^^^ o.toNat) 0

/-! ## Answers -/

/-- The state `u` with consumer `c` answered: its link has heard the REQUEST, the response stands in its response slot and
is its replay record, and a holder's lease timer runs anew for the lease period, in units of 10 ms (R147, R148, R152). -/
def replied (c : ConsumerIdx) (seq : Byte) (st : Status) (d : Page) (u : State) : State :=
  { u with
    links := Tab.upd u.links (linkIndex (.consumer c)) Link.heard
    ports := Tab.upd u.ports c fun p => { p with responseSlot := some ⟨seq, st, d⟩, replay := some ⟨seq, st, d⟩ }
    lease := if u.holds c then some ⟨c, u.device.leasePeriod.val * 10000⟩ else u.lease }

/-- A request of the lease holder that is carried out. -/
structure HolderAsks (s : State) (c : ConsumerIdx) (seq : Byte) : Prop where
  carried : Carried s c seq
  holder : s.holds c = true

end Sys2Proof.Machine
end

