-- ==== Sys2Proof/Certificates/Slice0/Obligations.lean ====
section
/-! DEFINITION. The claims about the part, one Prop each, for the provers. Each docstring names the rules that the claim
rests on. A claim over every state takes as a premise only a law of Sys2Proof/Safety.lean that is claimed to be kept. -/

open Sys2Proof Sys2Proof.Machine

/-! ## The machine -/

/-- A step with a command at the front of the queue is exec of that command with the queue's rest; with no command waiting
the state stands (that idling is the model's choice, log 1). -/
def Obligations.StepRunsFrontCommand : Prop :=
  (∀ (c : Instr) (rest : List Instr) (s : State), s.pending = c :: rest → step s = exec c { s with pending := rest }) ∧
    ∀ s : State, s.pending = [] → step s = .next s

/-- Every command answers a next state in every state and leaves the queue, POR too: no command faults and none is refused.
That a command answers also where the manual's event cannot happen is the model's choice (log 11), and so is the queue and
that POR leaves it (log 1, log 9). -/
def Obligations.CommandsAnswerNext : Prop :=
  ∀ (i : Instr) (s : State), ∃ t, exec i s = .next t ∧ t.pending = s.pending

/-! ## Reset -/

/-- R20: the Event Store after POR. -/
def Obligations.StoreAfterPor : Prop :=
  ∀ s : State, ∃ t, exec .por s = .next t ∧
    (∀ r, t.rcd r =
      { place := .free, generation := 0, addr := ⟨0, 0, 0⟩, kind := .pulse, datum := 0, stamp := 0, delivery := 0
        failed := 0, superseded := 0, tried := 0, neverDispatched := false }) ∧
    t.freeList = List.finRange 512 ∧ (∀ k, t.queue k = []) ∧ (∀ c, (t.port c).tx = [] ∧ (t.port c).waitingAck = []) ∧
    t.freeCount = 512 ∧ ∀ k, (t.cls k).pendingCount = 0 ∧ (t.cls k).dispatchedCount = 0

/-- R36, R55, R66, R83, R103, R118, R145, R146, R156, R171, R174: every other block after POR. The detectors' reports and the
queue stay (log 9), and the trial boundaries are not stated (log 7). -/
def Obligations.BlocksAfterPor : Prop :=
  ∀ s : State, ∃ t, exec .por s = .next t ∧
    t.timebase = 0 ∧ t.resetAsserted = true ∧ t.hold = .released ∧
    (∀ i, Tab.nth t.bankA i = ⟨false, 0, 0, 0, 0, 0, 0, 0⟩ ∧ Tab.nth t.bankB i = ⟨false, 0, 0, 0, 0, 0, 0, 0⟩) ∧
    t.activeBank = .a ∧ t.unmatched = 0 ∧ t.lastUnmatched = none ∧
    (∀ a, t.level a = ⟨none, none, 0, none⟩) ∧
    (∀ k, (t.cls k).config =
        { group := 0, mode := .balanced, order := .free, priority := 3, ackDeadline := 10, attemptLimit := 3
          confirmCount := 1, coalesce := false, policy := .refuse, pendingLimit := 64 } ∧
      (t.cls k).state = .disabled ∧ (t.cls k).purge = false ∧ (t.cls k).accepted = 0 ∧ (t.cls k).refused = 0 ∧
      (t.cls k).coalesced = 0 ∧ (t.cls k).completed = 0 ∧ (t.cls k).abandoned = 0) ∧
    (∀ c, t.port c =
      { window := 4, threshold := 3, state := .off, load := 15, consecutive := 0, dispatched := 0, tx := []
        waitingAck := [], responseSlot := none, noticeSlot := none, replay := none, deliversSent := 0, acksTaken := 0
        busyNacks := 0, rejects := 0, expiries := 0, staleTags := 0, overruns := 0, replays := 0 }) ∧
    t.grantOrder = [0, 1, 2, 3, 4, 5] ∧ (∀ p, Tab.nth t.pointers p = 0) ∧
    t.log = [] ∧ t.overwrites = 0 ∧ t.nextEntry = 0 ∧ t.notices = ⟨false, 0, 0, false⟩ ∧
    t.lease = none ∧ t.frozen = false ∧ t.device = ⟨50, 32, 64⟩ ∧ t.restart = none ∧ t.restartCount = 0 ∧
    (∀ l, (t.link l).state = .down ∧ (t.link l).alignCount = 0 ∧ (t.link l).badRun = 0 ∧ (t.link l).wire = .quiet ∧
      (t.link l).badCells = 0 ∧ (t.link l).malformed = 0 ∧ (t.link l).discarded = 0 ∧
      (t.link l).signal = (s.link l).signal) ∧
    t.malformedTotal = 0 ∧ (∀ n, Tab.nth t.handed n = []) ∧ t.pending = s.pending

/-- R174, R38: with the reset input asserted, RESET_RELEASE ends POR and starts every transmitter on IDLE; nothing else
changes, and the Timebase stands at its POR value until it is counted. That a link stays DOWN at the release where its
detector already reports a signal is the model's choice (log 9). With the input released it changes nothing (log 11). -/
def Obligations.ReleaseStartsTransmitters : Prop :=
  ∀ s : State,
    (s.resetAsserted = true → ∃ t, exec .resetRelease s = .next t ∧
      t = { s with resetAsserted := false, links := t.links } ∧ ∀ l, t.link l = { s.link l with wire := .sending .idle }) ∧
    (s.resetAsserted = false → exec .resetRelease s = .next s)

/-- The laws that the other claims say are kept hold right after reset. -/
def Obligations.LawsHoldAtReset : Prop :=
  Placed State.reset ∧ Counted State.reset ∧ ClassesLawful State.reset ∧ PortsLawful State.reset ∧
    WithinLimits State.reset ∧ AttemptsBelowLimit State.reset ∧ PointersLawful State.reset ∧
    GrantOrderLawful State.reset ∧ LogWithinCapacity State.reset ∧ HolderLinkUp State.reset ∧
    LinkCountsLawful State.reset ∧ Configured State.reset ∧ HoldLawful State.reset ∧ NoticesPlaced State.reset ∧
    PortsFollowLinks State.reset ∧ HandedLawful State.reset

/-! ## Links -/

/-- R164, R169, R174: a signal takes a DOWN link to ALIGNING outside POR, its counts 0; the place where the search begins is
left open (log 7). In any other state, inside POR among them, only the detector's report changes; and a report that was
present already takes a DOWN link to ALIGNING too: both are the model's choice (log 9, log 11). Loss of signal takes an
ALIGNING link to DOWN with its counts 0, and no block behind it is told; a DOWN link stays DOWN, and the report is then gone
(log 11). -/
def Obligations.SignalsBeforeUp : Prop :=
  (∀ (l : LinkId) (s : State), ∃ t, exec (.signalPresent l) s = .next t ∧ OnlyLink l s t ∧
     (s.resetAsserted = false → (s.link l).state = .down →
       t = { s with links := t.links, freeDraws := t.freeDraws } ∧
         t.link l =
           { s.link l with
             state := .aligning, signal := true, alignCount := 0, badRun := 0, boundary := (t.link l).boundary }) ∧
     (s.resetAsserted = true ∨ (s.link l).state ≠ .down →
       t = { s with links := t.links } ∧ t.link l = { s.link l with signal := true })) ∧
  ∀ (l : LinkId) (s : State), (s.link l).state ≠ .up →
    ∃ t, exec (.lossOfSignal l) s = .next t ∧ t = { s with links := t.links } ∧ OnlyLink l s t ∧
      ((s.link l).state = .aligning →
        t.link l = { s.link l with state := .down, signal := false, alignCount := 0, badRun := 0 }) ∧
      ((s.link l).state = .down → t.link l = { s.link l with signal := false })

/-- R164, R165, R89: a good cell in ALIGNING raises the alignment count, and the 16th in a row brings the link UP with its
counts 0; a DETACHED consumer is then WAITING. On a link that is not ALIGNING the command changes nothing (log 11). Whatever
a good cell carries, in ALIGNING it only counts toward alignment, and a DOWN link receives nothing (log 8). -/
def Obligations.AligningCountsGoodCells : Prop :=
  (∀ (l : LinkId) (s : State),
     ((s.link l).state = .aligning → ∃ t, exec (.goodCellAligning l) s = .next t ∧ OnlyLink l s t ∧
       t = { s with links := t.links, ports := t.ports } ∧
       ((s.link l).alignCount.val < 15 →
         t.ports = s.ports ∧ (t.link l).alignCount.val = (s.link l).alignCount.val + 1 ∧
           t.link l = { s.link l with alignCount := (t.link l).alignCount, badRun := 0 }) ∧
       ((s.link l).alignCount.val = 15 →
         t.link l = { s.link l with state := .up, alignCount := 0, badRun := 0 } ∧
           (∀ n, l = .source n → t.ports = s.ports) ∧
           ∀ c, l = .consumer c → OnlyPort c s t ∧
             t.port c =
               { s.port c with state := if (s.port c).state = .detached then .waiting else (s.port c).state })) ∧
     ((s.link l).state ≠ .aligning → exec (.goodCellAligning l) s = .next s)) ∧
  ∀ (i : Instr) (l : LinkId) (s : State), cellLink i = some l →
    ((s.link l).state = .aligning → exec i s = exec (.goodCellAligning l) s) ∧
      ((s.link l).state = .down → exec i s = .next s)

/-- R164, R165: a bad cell in ALIGNING restarts the count and moves the trial boundary on by one symbol (modulo the 16
places of a cell, log 7); in UP before a run of 4 it is counted and extends the run. A DOWN link receives none, and the
state stands (log 8). -/
def Obligations.BadCellBeforeRunOfFour : Prop :=
  ∀ (l : LinkId) (s : State),
    ((s.link l).state = .aligning → ∃ t, exec (.badCell l) s = .next t ∧ t = { s with links := t.links } ∧
      OnlyLink l s t ∧
      t.link l = { s.link l with alignCount := 0, badRun := 0, boundary := (s.link l).boundary + 1 }) ∧
    ((s.link l).state = .up → (s.link l).badRun.val < 3 → ∃ t, exec (.badCell l) s = .next t ∧
      t = { s with links := t.links } ∧ OnlyLink l s t ∧ (t.link l).badRun.val = (s.link l).badRun.val + 1 ∧
      t.link l =
        { s.link l with alignCount := 0, badRun := (t.link l).badRun, badCells := satUp (s.link l).badCells }) ∧
    ((s.link l).state = .down → exec (.badCell l) s = .next s)

/-- R65, R164, R168, R169, R170: a source link that leaves UP, by loss of signal or by a fourth bad cell in a row, has its cell
cut short (its wire is quiet until the next slot: log 13) and its 1024 Level Image entries reset with their pending records
kept. With a signal still present after the fourth bad cell it goes on to ALIGNING in the same step (log 10). The cells that
Steering has not yet taken are then taken in the order of their arrival (log 22); nothing else changes. A LEVEL cell taken so
is filtered against UNKNOWN, as the first report after the loss. -/
def Obligations.SourceLinkLeavesUp : Prop :=
  ∀ (n : Fin 4) (s : State), (s.link (.source n)).state = .up →
    ∀ i, i = .lossOfSignal (.source n) ∨ (i = .badCell (.source n) ∧ (s.link (.source n)).badRun = 3) →
      (∃ u : State, exec i s = .next ((Tab.nth s.handed n).foldl takeArrival u) ∧
        u = { s with links := u.links, levels := u.levels, handed := u.handed, freeDraws := u.freeDraws } ∧
        OnlyLink (.source n) s u ∧
        (∀ m, Tab.nth u.handed m = if m = n then [] else Tab.nth s.handed m) ∧
        (∀ a, u.level a =
          if a.link = n then { s.level a with confirmed := none, candidate := none, count := 0 } else s.level a) ∧
        (i = .lossOfSignal (.source n) → u.freeDraws = s.freeDraws ∧
          u.link (.source n) =
            { s.link (.source n) with state := .down, signal := false, alignCount := 0, badRun := 0, wire := .quiet }) ∧
        (i = .badCell (.source n) →
          u.link (.source n) =
            { s.link (.source n) with
              state := if (s.link (.source n)).signal then .aligning else .down
              badCells := satUp (s.link (.source n)).badCells
              alignCount := 0, badRun := 0, wire := .quiet, boundary := (u.link (.source n)).boundary })) ∧
      ∀ (x : Arrival) (k : ClassIdx), Tab.nth s.handed n = [x] → x.addr.link = n → x.kind = .level →
        RoutedTo s x.addr x.kind k → (s.cls k).state = .enabled →
          ∃ t, exec i s = .next t ∧
            ((s.cls k).config.confirmCount.val ≤ 1 →
              (t.level x.addr).confirmed = some (levelOf x.datum) ∧ (t.level x.addr).candidate = none ∧
                (t.level x.addr).count = 0) ∧
            (1 < (s.cls k).config.confirmCount.val →
              (t.level x.addr).confirmed = none ∧ (t.level x.addr).candidate = some (levelOf x.datum) ∧
                (t.level x.addr).count = 1)

/-- R93, R153, R164, R169, R170: a consumer link that leaves UP, by loss of signal or by a fourth bad cell in a row. The
consumer becomes DETACHED unless it is OFF, its lists and slots are empty, the lease is freed if it held it, and its cell is
cut short (its wire is quiet until the next slot: log 13). With a signal still present after the fourth bad cell the link goes
on to ALIGNING in the same step (log 10). The rest of its port and of its link is kept, the other ports differ at most by a
NOTICE, and no block but those named changes. -/
def Obligations.ConsumerLinkLeavesUp : Prop :=
  ∀ (c : ConsumerIdx) (s : State), Placed s → (s.link (.consumer c)).state = .up →
    ∀ i, i = .lossOfSignal (.consumer c) ∨ (i = .badCell (.consumer c) ∧ (s.link (.consumer c)).badRun = 3) →
      ∃ t, exec i s = .next t ∧
        t = { s with
          links := t.links, levels := t.levels, records := t.records, freeList := t.freeList, queues := t.queues
          classes := t.classes, ports := t.ports, hold := t.hold, notices := t.notices, log := t.log
          overwrites := t.overwrites, nextEntry := t.nextEntry, lease := t.lease, freeDraws := t.freeDraws } ∧
        OnlyLink (.consumer c) s t ∧
        (i = .lossOfSignal (.consumer c) → t.freeDraws = s.freeDraws ∧
          t.link (.consumer c) =
            { s.link (.consumer c) with
              state := .down, signal := false, alignCount := 0, badRun := 0, wire := .quiet }) ∧
        (i = .badCell (.consumer c) →
          t.link (.consumer c) =
            { s.link (.consumer c) with
              state := if (s.link (.consumer c)).signal then .aligning else .down
              badCells := satUp (s.link (.consumer c)).badCells
              alignCount := 0, badRun := 0, wire := .quiet, boundary := (t.link (.consumer c)).boundary }) ∧
        t.port c =
          { s.port c with
            state := if (s.port c).state = .off then .off else .detached
            tx := [], waitingAck := [], dispatched := 0, responseSlot := none, noticeSlot := none } ∧
        OtherPorts c s t ∧ t.lease = if s.holds c then none else s.lease

/-- R12, R13, R15, R49, R75, R76, R128, R138, R142: what becomes of the records of a consumer whose link leaves UP, by loss of
signal or by a fourth bad cell in a row. Those of classes that are not purge-draining stand at the head of their class queues
in grant order, uncharged, the consumer in their tried sets; those of purge-draining classes are freed in grant order and
logged with PURGED; no other record changes. The class counts follow, drains end, the hold rule and the Notice Unit's test
are applied, the latter with the lease and the slots as the loss leaves them. -/
def Obligations.LinkLossReturnsRecordsInGrantOrder : Prop :=
  ∀ (c : ConsumerIdx) (s : State), Sound s → (s.link (.consumer c)).state = .up →
    ∀ i, i = .lossOfSignal (.consumer c) ∨ (i = .badCell (.consumer c) ∧ (s.link (.consumer c)).badRun = 3) →
      ∃ t, exec i s = .next t ∧ ReturnsAll c s t ∧
        ReturnNotices c s { s.modPort c (fun p => { p with noticeSlot := none }) with lease := t.lease } t

/-- R167, R168, R171: on an UP link with no cell waiting for Steering a malformed cell is counted on its link and in the total,
an IDLE cell is not counted, and each ends the bad-cell run; nothing else changes, whether or not a restart is in progress. An
EVENT whose datum is out of its kind's range, and an ACK whose tag count is outside 1..4, are malformed cells (log 16). R39,
R65, R168 (log 22): an EVENT that Steering has not yet taken when it ends waits with its stamp behind the cells of its link
that wait already; every other good cell of the link finds them taken first, in order, each as an EVENT that is taken at
once; and a record made so carries the stamp of its cell. -/
def Obligations.CellsThatEndAtLink : Prop :=
  (∀ (l : LinkId) (s : State), (s.link l).state = .up → CaughtUp s l →
     (∃ t, exec (.malformedCell l) s = .next t ∧
       t = { s with links := t.links, malformedTotal := satUp s.malformedTotal } ∧ OnlyLink l s t ∧
       t.link l = { (s.link l).heard with malformed := satUp (s.link l).malformed }) ∧
     ∃ t, exec (.idle l) s = .next t ∧ t = { s with links := t.links } ∧ GoodCell l s t) ∧
  (∀ s : State,
    (∀ (n : Fin 4) (m : Fin 16) (ch : Fin 64) (k : Kind) (d : Half),
      (k = .pulse ∧ (d.toNat = 0 ∨ 255 < d.toNat)) ∨ (k = .level ∧ 1 < d.toNat) →
        exec (.event n m ch k d) s = exec (.malformedCell (.source n)) s) ∧
    ∀ (c : Fin 6) (tags : List Tag), tags.length = 0 ∨ 4 < tags.length →
      exec (.ack c tags) s = exec (.malformedCell (.consumer c)) s) ∧
  (∀ (x : Arrival) (s : State), (s.link (.source x.addr.link)).state = .up → datumOk x.kind x.datum = true →
    s.restart = none →
      (s.late.headD false = true →
        ∃ t, exec x.command s = .next t ∧ t = { s with links := t.links, handed := t.handed, late := s.late.tail } ∧
          GoodCell (.source x.addr.link) s t ∧
          ∀ n, Tab.nth t.handed n =
            if n = x.addr.link then Tab.nth s.handed n ++ [{ x with stamp := s.timebase }] else Tab.nth s.handed n) ∧
      (s.late.headD false = false → exec x.command s = exec x.command (catchUp x.addr.link s))) ∧
  (∀ (n : Fin 4) (s : State), (s.link (.source n)).state = .up →
    exec (.malformedCell (.source n)) s = exec (.malformedCell (.source n)) (catchUp n s) ∧
      exec (.idle (.source n)) s = exec (.idle (.source n)) (catchUp n s)) ∧
  (∀ (n : Fin 4) (s : State),
    catchUp n s = (Tab.nth s.handed n).foldl takeArrival { s with handed := Tab.put s.handed n [] }) ∧
  (∀ (x : Arrival) (s : State), Passing s (.source x.addr.link) → datumOk x.kind x.datum = true → x.stamp = s.timebase →
    ∃ t, exec x.command s = .next t ∧ takeArrival s x = { t with links := s.links, late := s.late }) ∧
  ∀ (x : Arrival) (k : ClassIdx) (r : RecIdx) (rest : List RecIdx) (s : State),
    (s.link (.source x.addr.link)).state = .up → Tab.nth s.handed x.addr.link = [x] → x.kind ≠ .level →
    RoutedTo s x.addr x.kind k → (s.cls k).state = .enabled → s.freeList = r :: rest →
    s.holding k < (s.cls k).config.pendingLimit.val →
      ∃ t, exec (.idle (.source x.addr.link)) s = .next t ∧
        t.rcd r =
          { place := .pending k, generation := (s.rcd r).generation, addr := x.addr, kind := x.kind, datum := x.datum
            stamp := x.stamp, delivery := 0, failed := 0, superseded := 0, tried := 0, neverDispatched := true }

/-- R161, R168: during a restart every well-formed cell on an UP link that is neither IDLE nor malformed is discarded and
counted on its link; nothing else changes. -/
def Obligations.RestartDiscardsCells : Prop :=
  ∀ (i : Instr) (l : LinkId) (s : State), cellLink i = some l → wellFormed i = true → i ≠ .idle l → i ≠ .malformedCell l →
    (s.link l).state = .up → s.restart ≠ none →
      ∃ t, exec i s = .next t ∧ t = { s with links := t.links } ∧ OnlyLink l s t ∧
        t.link l = { (s.link l).heard with discarded := satUp (s.link l).discarded }

/-! ## Events -/

/-- R26: when a steering entry holds a cell. -/
def Obligations.EntryHoldsCell : Prop :=
  ∀ (e : SteerEntry) (a : Addr) (kind : Kind),
    e.holdsCell a kind = true ↔
      e.links.getLsbD a.link.val = true ∧
        (e.moduleLow.val ≤ a.module.val ∧ a.module.val ≤ e.moduleHigh.val) ∧
        (e.channelLow.val ≤ a.channel.val ∧ a.channel.val ≤ e.channelHigh.val) ∧
        ((kind = .pulse ∧ e.kinds.getLsbD 0 = true) ∨ (kind = .level ∧ e.kinds.getLsbD 1 = true) ∨
          (kind = .value ∧ e.kinds.getLsbD 2 = true))

/-- R28: an unmatched EVENT is counted and its address kept. R27, R41: an EVENT whose lowest-index matching entry names a
class that is not ENABLED is refused and counted in that class. Nothing else changes, the Level Image included, but the
link's bad-cell run (and the sender's next choice of log 22 is used up, as in every EVENT that is passed on). -/
def Obligations.EventsWithoutEnabledClass : Prop :=
  (∀ (x : Arrival) (s : State), NoticesPlaced s → Passing s (.source x.addr.link) → datumOk x.kind x.datum = true →
     Unmatched s x.addr x.kind →
       ∃ t, exec x.command s = .next t ∧
         t = { s with
           links := t.links, unmatched := satUp s.unmatched, lastUnmatched := some x.addr, late := s.late.tail } ∧
         GoodCell (.source x.addr.link) s t) ∧
  ∀ (x : Arrival) (k : ClassIdx) (s : State), NoticesPlaced s → Passing s (.source x.addr.link) →
    datumOk x.kind x.datum = true → RoutedTo s x.addr x.kind k → (s.cls k).state ≠ .enabled →
      ∃ t, exec x.command s = .next t ∧ t = { s with links := t.links, classes := t.classes, late := s.late.tail } ∧
        GoodCell (.source x.addr.link) s t ∧ OnlyClass k s t ∧
        t.cls k = { s.cls k with refused := satUp (s.cls k).refused }

/-- R7, R43, R46, R49, R51: an EVENT of an ENABLED class with room and a FREE record takes the record at the head of the
free list to the tail of its class queue. It holds the event with its arrival stamp; the accepted counter and the pending
count rise; hold follows the free count; a LEVEL record of a class with coalescing on becomes its channel's pending record. -/
def Obligations.EventAllocatesHeadOfFreeList : Prop :=
  ∀ (x : Arrival) (k : ClassIdx) (r : RecIdx) (rest : List RecIdx) (s : State),
    Offered s x k → ToStore s x k → s.freeList = r :: rest → s.holding k < (s.cls k).config.pendingLimit.val →
      ∃ t, exec x.command s = .next t ∧
        t = { s with
          links := t.links, levels := t.levels, records := t.records, freeList := rest, queues := t.queues
          classes := t.classes, ports := t.ports, notices := t.notices, hold := holdNext s rest.length
          late := s.late.tail } ∧
        GoodCell (.source x.addr.link) s t ∧ OnlyRecord r s t ∧
        t.rcd r =
          { place := .pending k, generation := (s.rcd r).generation, addr := x.addr, kind := x.kind, datum := x.datum
            stamp := s.timebase, delivery := 0, failed := 0, superseded := 0, tried := 0, neverDispatched := true } ∧
        OnlyQueue k s t ∧ t.queue k = s.queue k ++ [r] ∧ OnlyClass k s t ∧
        t.cls k =
          { s.cls k with pendingCount := (s.cls k).pendingCount + 1, accepted := satUp (s.cls k).accepted } ∧
        (∀ b, b ≠ x.addr → t.level b = s.level b) ∧
        t.level x.addr =
          { levelAfter s x k with pendingRec := if Named s x k then some r else (levelAfter s x k).pendingRec } ∧
        SamePorts s t ∧ NoticeTest { s.notices with hold := s.notices.hold || holdRaises s rest.length } s t

/-- R44: under the REFUSE policy an EVENT without room is refused: of the store and the classes only the refused counter of its
class changes. A LEVEL cell's entry keeps the newly confirmed level (R42), and the link's bad-cell run ends. -/
def Obligations.RefusePolicyRefuses : Prop :=
  ∀ (x : Arrival) (k : ClassIdx) (s : State), NoticesPlaced s → Offered s x k → ToStore s x k →
    (s.cls k).config.policy = .refuse →
    (¬ s.holding k < (s.cls k).config.pendingLimit.val ∨ s.freeList = []) →
      ∃ t, exec x.command s = .next t ∧
        t = { s with links := t.links, levels := t.levels, classes := t.classes, late := s.late.tail } ∧
        GoodCell (.source x.addr.link) s t ∧ OnlyClass k s t ∧
        t.cls k = { s.cls k with refused := satUp (s.cls k).refused } ∧
        (∀ b, b ≠ x.addr → t.level b = s.level b) ∧ t.level x.addr = levelAfter s x k

/-- R9, R45: under the DISPLACE policy an EVENT without room takes the record at the head of its class queue: that record is
abandoned with DISPLACED, refilled with its generation advanced, and stands at the tail. With an empty queue the EVENT is
refused. -/
def Obligations.DisplacePolicyDisplaces : Prop :=
  ∀ (x : Arrival) (k : ClassIdx) (s : State), NoticesPlaced s → Offered s x k → ToStore s x k →
    (s.cls k).config.policy = .displace →
    (¬ s.holding k < (s.cls k).config.pendingLimit.val ∨ s.freeList = []) →
      (s.queue k = [] → ∃ t, exec x.command s = .next t ∧
        t = { s with links := t.links, levels := t.levels, classes := t.classes, late := s.late.tail } ∧
        GoodCell (.source x.addr.link) s t ∧ OnlyClass k s t ∧
        t.cls k = { s.cls k with refused := satUp (s.cls k).refused } ∧
        (∀ b, b ≠ x.addr → t.level b = s.level b) ∧ t.level x.addr = levelAfter s x k) ∧
      ∀ r rest, s.queue k = r :: rest → ∃ t, exec x.command s = .next t ∧
        t = { s with
          links := t.links, levels := t.levels, records := t.records, queues := t.queues, classes := t.classes
          ports := t.ports, notices := t.notices, log := t.log, overwrites := t.overwrites, nextEntry := t.nextEntry
          late := s.late.tail } ∧
        GoodCell (.source x.addr.link) s t ∧ OnlyRecord r s t ∧
        t.rcd r =
          { place := .pending k, generation := (s.rcd r).generation + 1, addr := x.addr, kind := x.kind
            datum := x.datum, stamp := s.timebase, delivery := 0, failed := 0, superseded := 0, tried := 0
            neverDispatched := true } ∧
        OnlyQueue k s t ∧ t.queue k = rest ++ [r] ∧ OnlyClass k s t ∧
        t.cls k =
          { s.cls k with
            accepted := satUp (s.cls k).accepted, abandoned := satUp (s.cls k).abandoned } ∧
        LogTakes
          { number := s.nextEntry, cls := k, addr := (s.rcd r).addr, kind := (s.rcd r).kind, datum := (s.rcd r).datum
            arrival := (s.rcd r).stamp, abandonStamp := s.timebase, reason := .displaced, failed := (s.rcd r).failed
            delivery := (s.rcd r).delivery, superseded := (s.rcd r).superseded } s t ∧
        (∀ b, b ≠ x.addr → t.level b =
          if b = (s.rcd r).addr ∧ (s.level b).pendingRec = some r then { s.level b with pendingRec := none }
          else s.level b) ∧
        (Named s x k → (t.level x.addr).pendingRec = some r) ∧
        (¬ Named s x k → (t.level x.addr).pendingRec =
          if x.addr = (s.rcd r).addr ∧ (levelAfter s x k).pendingRec = some r then none
          else (levelAfter s x k).pendingRec) ∧
        t.level x.addr = { levelAfter s x k with pendingRec := (t.level x.addr).pendingRec } ∧
        SamePorts s t ∧ NoticeTest { s.notices with abandon := true } s t

/-- R58: the confirmation filter on a report of level `v` under confirm count `n`, row by row, with the confirmation at a
count of `n` or more. -/
def Obligations.ConfirmationFilter : Prop :=
  ∀ (e : LevelEntry) (v : Level) (n : Fin 5), 1 ≤ n.val →
    (e.confirmed = some v → levelFilter e v n = ({ e with candidate := none, count := 0 }, false)) ∧
    (e.confirmed ≠ some v → ∀ seen, seen = (if e.candidate = some v then e.count.val + 1 else 1) →
      (n.val ≤ seen → levelFilter e v n = ({ e with confirmed := some v, candidate := none, count := 0 }, true)) ∧
      (seen < n.val → (levelFilter e v n).2 = false ∧ (levelFilter e v n).1.count.val = seen ∧
        (levelFilter e v n).1 = { e with candidate := some v, count := (levelFilter e v n).1.count }))

/-- R42, R57, R60: a LEVEL report that confirms nothing is suppressed: only its channel's entry changes, as the filter leaves
it under its class's confirm count, with a pending record of another class dropped first. R8, R61: a confirmed change whose
entry names a waiting record folds into that record: its datum and stamp are the report's, its superseded count and the
class's coalesced counter rise, and it keeps its place. -/
def Obligations.LevelReportsThatTakeNoRecord : Prop :=
  (∀ (x : Arrival) (k : ClassIdx) (e : LevelEntry) (s : State), NoticesPlaced s → Offered s x k → x.kind = .level →
     e = (if (∃ r, (s.level x.addr).pendingRec = some r ∧ (s.rcd r).place.cls ≠ some k)
       then { s.level x.addr with pendingRec := none } else s.level x.addr) →
     (levelFilter e (levelOf x.datum) (s.cls k).config.confirmCount).2 = false →
       ∃ t, exec x.command s = .next t ∧
         t = { s with links := t.links, levels := t.levels, late := s.late.tail } ∧
         GoodCell (.source x.addr.link) s t ∧ (∀ b, b ≠ x.addr → t.level b = s.level b) ∧
         t.level x.addr = (levelFilter e (levelOf x.datum) (s.cls k).config.confirmCount).1) ∧
  ∀ (x : Arrival) (k : ClassIdx) (r : RecIdx) (s : State), NoticesPlaced s → PointersLawful s → Offered s x k →
    x.kind = .level → (reportEntry s k x.addr (levelOf x.datum)).2 = true →
    (reportEntry s k x.addr (levelOf x.datum)).1.pendingRec = some r →
      ∃ t, exec x.command s = .next t ∧
        t = { s with
          links := t.links, levels := t.levels, records := t.records, classes := t.classes, late := s.late.tail } ∧
        GoodCell (.source x.addr.link) s t ∧ OnlyRecord r s t ∧
        t.rcd r =
          { s.rcd r with datum := x.datum, stamp := s.timebase, superseded := satUp (s.rcd r).superseded } ∧
        OnlyClass k s t ∧ t.cls k = { s.cls k with coalesced := satUp (s.cls k).coalesced } ∧
        (∀ b, b ≠ x.addr → t.level b = s.level b) ∧
        t.level x.addr = (reportEntry s k x.addr (levelOf x.datum)).1

/-! ## Settlement -/

/-- R120: the tags of an ACK cell are taken one after another in cell order. R14, R16, R121, R5, R76: an accepted ACK tag
completes its record, which is freed; the counts fall, the completed and acks-taken counters rise, the run ends, and the
drain rule and the hold rule are applied. That the Notice Unit tests after each accepted tag is the model's reading (log 14). -/
def Obligations.AckCompletesRecords : Prop :=
  (∀ (c : Fin 6) (first : Tag) (rest : List Tag) (s : State), Passing s (.consumer c) → 1 ≤ rest.length →
     rest.length ≤ 3 → ∃ u, exec (.ack c [first]) s = .next u ∧ exec (.ack c (first :: rest)) s = exec (.ack c rest) u) ∧
  ∀ (c : Fin 6) (tag : Tag) (k : ClassIdx) (x : ClassRecord) (s : State), Passing s (.consumer c) →
    Accepted s c tag k →
    x = { s.cls k with
      dispatchedCount := (s.cls k).dispatchedCount - 1, completed := satUp (s.cls k).completed } →
      ∃ t, exec (.ack c [tag]) s = .next t ∧
        t = { s with
          links := t.links, records := t.records, freeList := t.freeList, classes := t.classes, ports := t.ports
          notices := t.notices, hold := holdNext s (s.freeCount + 1) } ∧
        FreedRecord tag.index s t ∧ OnlyClass k s t ∧ t.cls k = x.drained ∧
        OnlyLink (.consumer c) s t ∧
        t.link (.consumer c) =
          { (s.link (.consumer c)).heard with wire := (s.link (.consumer c)).wire.withdraw tag.index } ∧
        t.port c =
          { s.port c with
            tx := (s.port c).tx.filter (fun d => d.tag.index != tag.index)
            waitingAck := (s.port c).waitingAck.filter (fun r => r != tag.index)
            dispatched := (s.port c).dispatched - 1, acksTaken := satUp (s.port c).acksTaken, consecutive := 0
            noticeSlot := (t.port c).noticeSlot } ∧
        OtherPorts c s t ∧
        NoticeTest
          { s.notices with
            idle := if x.drainEnds then addTo s.notices.idle k.val else s.notices.idle
            hold := s.notices.hold || holdRaises s (s.freeCount + 1) } s t

/-- R12, R123, R125, R126, R91: a busy NACK or an expiry below the attempt limit, in a class that is not purge-draining,
returns its record to the head of its class queue, charged, with the consumer in its tried set. A busy NACK ends the run of
expiries; an expiry extends it and may make the consumer SUSPECT. -/
def Obligations.ChargedFailureReturnsRecord : Prop :=
  ∀ (c : Fin 6) (r : RecIdx) (k : ClassIdx) (s : State), NoticesPlaced s → s.purgeDraining k = false →
    (s.rcd r).failed.toNat + 1 < (s.cls k).config.attemptLimit.val →
    ∀ i,
      (i = .nackBusy c ⟨r, (s.rcd r).generation⟩ ∧ Passing s (.consumer c) ∧ DispatchedTo s r k c) ∨
        (i = .expiry r ∧ (s.rcd r).place = .awaiting k c 0) →
      ∃ t, exec i s = .next t ∧
        t = { s with
          links := t.links, records := t.records, queues := t.queues, classes := t.classes, ports := t.ports
          notices := t.notices } ∧
        OnlyRecord r s t ∧
        t.rcd r =
          { s.rcd r with
            place := .pending k, failed := (s.rcd r).failed + 1, tried := addTo (s.rcd r).tried c.val } ∧
        OnlyQueue k s t ∧ t.queue k = r :: s.queue k ∧ OnlyClass k s t ∧
        t.cls k =
          { s.cls k with
            dispatchedCount := (s.cls k).dispatchedCount - 1, pendingCount := (s.cls k).pendingCount + 1 } ∧
        OnlyLink (.consumer c) s t ∧
        (t.link (.consumer c)).wire = (s.link (.consumer c)).wire.withdraw r ∧
        (i = .expiry r → t.link (.consumer c) = { s.link (.consumer c) with wire := (t.link (.consumer c)).wire }) ∧
        (i ≠ .expiry r →
          t.link (.consumer c) = { (s.link (.consumer c)).heard with wire := (t.link (.consumer c)).wire }) ∧
        (t.port c).tx = (s.port c).tx.filter (fun d => d.tag.index != r) ∧
        (t.port c).waitingAck = (s.port c).waitingAck.filter (fun q => q != r) ∧
        (t.port c).dispatched = (s.port c).dispatched - 1 ∧ OtherPorts c s t ∧
        (i ≠ .expiry r → t.notices = s.notices ∧ OnlyPort c s t ∧
          t.port c =
            { s.port c with
              tx := (t.port c).tx, waitingAck := (t.port c).waitingAck, dispatched := (t.port c).dispatched
              busyNacks := satUp (s.port c).busyNacks, consecutive := 0 }) ∧
        (i = .expiry r → ∃ suspect : Bool,
          (suspect = true ↔ (s.port c).state = .active ∧
            (s.port c).threshold.val ≤ (satUp (s.port c).consecutive).toNat) ∧
          t.port c =
            { s.port c with
              tx := (t.port c).tx, waitingAck := (t.port c).waitingAck, dispatched := (t.port c).dispatched
              expiries := satUp (s.port c).expiries, consecutive := satUp (s.port c).consecutive
              state := if suspect then .suspect else (s.port c).state, noticeSlot := (t.port c).noticeSlot } ∧
          NoticeTest
            { s.notices with suspects := if suspect then addTo s.notices.suspects c.val else s.notices.suspects } s t)

/-- R15, R75, R124, R125, R126: a record ends at its consumer. A busy NACK or an expiry in a purge-draining class abandons it
with PURGED, and one that reaches the attempt limit with EXHAUSTED, each charged; a rejecting NACK abandons it with REJECTED,
uncharged. The record is logged and freed, and the drain rule and the hold rule are applied. -/
def Obligations.FailuresThatAbandonRecord : Prop :=
  ∀ (c : Fin 6) (r : RecIdx) (k : ClassIdx) (x : ClassRecord) (why : Reason) (charged : BitVec 3) (s : State),
    x = { s.cls k with
      dispatchedCount := (s.cls k).dispatchedCount - 1, abandoned := satUp (s.cls k).abandoned } →
    ∀ i,
      (((i = .nackBusy c ⟨r, (s.rcd r).generation⟩ ∧ Passing s (.consumer c) ∧ DispatchedTo s r k c) ∨
          (i = .expiry r ∧ (s.rcd r).place = .awaiting k c 0)) ∧
        charged = satUp (s.rcd r).failed ∧
        ((s.purgeDraining k = true ∧ why = .purged) ∨
          (s.purgeDraining k = false ∧ (s.cls k).config.attemptLimit.val ≤ (s.rcd r).failed.toNat + 1 ∧
            why = .exhausted))) ∨
        (i = .nackReject c ⟨r, (s.rcd r).generation⟩ ∧ Passing s (.consumer c) ∧ DispatchedTo s r k c ∧
          charged = (s.rcd r).failed ∧ why = .rejected) →
      ∃ t, exec i s = .next t ∧
        t = { s with
          links := t.links, levels := t.levels, records := t.records, freeList := t.freeList, classes := t.classes
          ports := t.ports, notices := t.notices, log := t.log, overwrites := t.overwrites, nextEntry := t.nextEntry
          hold := holdNext s (s.freeCount + 1) } ∧
        FreedRecord r s t ∧ PointerCleared r s t ∧ OnlyClass k s t ∧ t.cls k = x.drained ∧
        LogTakes
          { number := s.nextEntry, cls := k, addr := (s.rcd r).addr, kind := (s.rcd r).kind, datum := (s.rcd r).datum
            arrival := (s.rcd r).stamp, abandonStamp := s.timebase, reason := why, failed := charged
            delivery := (s.rcd r).delivery, superseded := (s.rcd r).superseded } s t ∧
        OnlyLink (.consumer c) s t ∧
        (t.link (.consumer c)).wire = (s.link (.consumer c)).wire.withdraw r ∧
        (i = .expiry r → t.link (.consumer c) = { s.link (.consumer c) with wire := (t.link (.consumer c)).wire }) ∧
        (i ≠ .expiry r →
          t.link (.consumer c) = { (s.link (.consumer c)).heard with wire := (t.link (.consumer c)).wire }) ∧
        (t.port c).tx = (s.port c).tx.filter (fun d => d.tag.index != r) ∧
        (t.port c).waitingAck = (s.port c).waitingAck.filter (fun q => q != r) ∧
        (t.port c).dispatched = (s.port c).dispatched - 1 ∧ OtherPorts c s t ∧
        ∃ suspect : Bool,
          (suspect = true ↔ i = .expiry r ∧ (s.port c).state = .active ∧
            (s.port c).threshold.val ≤ (satUp (s.port c).consecutive).toNat) ∧
          t.port c =
            { s.port c with
              tx := (t.port c).tx, waitingAck := (t.port c).waitingAck, dispatched := (t.port c).dispatched
              noticeSlot := (t.port c).noticeSlot, state := if suspect then .suspect else (s.port c).state
              busyNacks := if i = .nackBusy c ⟨r, (s.rcd r).generation⟩ then satUp (s.port c).busyNacks
                else (s.port c).busyNacks
              rejects := if why = .rejected then satUp (s.port c).rejects else (s.port c).rejects
              expiries := if i = .expiry r then satUp (s.port c).expiries else (s.port c).expiries
              consecutive := if i = .expiry r then satUp (s.port c).consecutive else 0 } ∧
          NoticeTest
            { abandon := true
              suspects := if suspect then addTo s.notices.suspects c.val else s.notices.suspects
              idle := if x.drainEnds then addTo s.notices.idle k.val else s.notices.idle
              hold := s.notices.hold || holdRaises s (s.freeCount + 1) } s t

/-- R11, R126 (log 5): no expiry happens to a record that is not AWAITING or whose deadline has not run out. R16, R120, R122:
a stale tag is counted at its consumer and changes nothing else, in an ACK or a NACK of either reason. -/
def Obligations.StaleTagsAndEarlyExpiries : Prop :=
  (∀ (r : RecIdx) (s : State), (∀ k c, (s.rcd r).place ≠ .awaiting k c 0) → exec (.expiry r) s = .next s) ∧
  ∀ (c : Fin 6) (tag : Tag) (s : State), Passing s (.consumer c) → (∀ k, ¬ Accepted s c tag k) →
    ∀ i, i = .ack c [tag] ∨ i = .nackBusy c tag ∨ i = .nackReject c tag →
      ∃ t, exec i s = .next t ∧ t = { s with links := t.links, ports := t.ports } ∧ GoodCell (.consumer c) s t ∧
        OnlyPort c s t ∧ t.port c = { s.port c with staleTags := satUp (s.port c).staleTags }

/-- R90: a LOAD stores its level; a WAITING or SUSPECT consumer becomes ACTIVE with its run at 0. -/
def Obligations.LoadStoresLevel : Prop :=
  ∀ (c : Fin 6) (level : Fin 16) (s : State), Passing s (.consumer c) →
    ∃ t, exec (.load c level) s = .next t ∧ t = { s with links := t.links, ports := t.ports } ∧
      GoodCell (.consumer c) s t ∧ OnlyPort c s t ∧
      t.port c =
        { s.port c with
          load := level
          state := if (s.port c).state = .waiting ∨ (s.port c).state = .suspect then .active else (s.port c).state
          consecutive :=
            if (s.port c).state = .waiting ∨ (s.port c).state = .suspect then 0 else (s.port c).consecutive }

/-! ## Dispatch and the transmitters -/

/-- R10, R105, R106, R107, R115: whenever a class is a contender outside a restart, GRANT hands the head record of a
contender to a candidate of its group, with every change of R10 and R115 and no other. -/
def Obligations.GrantTakesHeadOfContender : Prop :=
  ∀ s : State, GrantOrderLawful s → s.restart = none → (∃ j, isContender s j = true) →
    ∃ (k : ClassIdx) (c : ConsumerIdx) (r : RecIdx) (rest : List RecIdx) (t : State),
      exec .grant s = .next t ∧ isContender s k = true ∧ isCandidate s k c = true ∧ s.queue k = r :: rest ∧
      t = { s with
        levels := t.levels, records := t.records, queues := t.queues, classes := t.classes, ports := t.ports
        pointers := t.pointers, grantOrder := s.grantOrder.filter (fun d => d != c) ++ [c] } ∧
      OnlyRecord r s t ∧
      t.rcd r =
        { s.rcd r with place := .queued k c, delivery := satUp (s.rcd r).delivery, neverDispatched := false } ∧
      PointerCleared r s t ∧ OnlyQueue k s t ∧ t.queue k = rest ∧ OnlyClass k s t ∧
      t.cls k =
        { s.cls k with
          pendingCount := (s.cls k).pendingCount - 1, dispatchedCount := (s.cls k).dispatchedCount + 1 } ∧
      OnlyPort c s t ∧
      t.port c =
        { s.port c with
          dispatched := (s.port c).dispatched + 1
          tx := (s.port c).tx ++
            [{ tag := ⟨r, (s.rcd r).generation⟩, delivery := satUp (s.rcd r).delivery, cls := k, addr := (s.rcd r).addr
               kind := (s.rcd r).kind, datum := (s.rcd r).datum, stamp := (s.rcd r).stamp
               superseded := (s.rcd r).superseded }] } ∧
      ∀ p, Tab.nth t.pointers p = if p = (s.cls k).config.priority then k + 1 else Tab.nth s.pointers p

/-- R107, R112: which classes contend and which consumers are candidates; and with no contender, or during a restart (R161),
GRANT changes nothing. -/
def Obligations.ContendersAndCandidates : Prop :=
  ∀ s : State,
    (∀ k, isContender s k = true ↔
      ((s.cls k).state = .enabled ∨ (s.cls k).state = .draining) ∧ s.queue k ≠ [] ∧
        ((s.cls k).config.order = .serial → (s.cls k).dispatchedCount = 0) ∧ ∃ c, isCandidate s k c = true) ∧
    (∀ k c, isCandidate s k c = true ↔
      (s.cls k).config.group.getLsbD c.val = true ∧ (s.port c).state = .active ∧
        (s.port c).dispatched < (s.port c).window.val) ∧
    ((∀ k, isContender s k = false) ∨ s.restart ≠ none → exec .grant s = .next s)

/-- R110, R111: the record that GRANT dispatches is the head of the class that priority, then round robin from the level's
pointer upward, puts first among the contenders. R112, R113, R114: a candidate outside the record's tried set is preferred
if there is one; among those considered, PRIMARY takes the lowest index, and BALANCED the lowest effective load, and of a tie
the earliest in the Grant Order List. -/
def Obligations.GrantChoosesClassAndConsumer : Prop :=
  (∀ s : State, GrantOrderLawful s → s.restart = none → (∃ j, isContender s j = true) →
     ∃ (k : ClassIdx) (r : RecIdx) (rest : List RecIdx) (t : State),
       exec .grant s = .next t ∧ s.queue k = r :: rest ∧ t.queue k = rest ∧ isContender s k = true ∧
       (∀ j, isContender s j = true → (s.cls k).config.priority ≤ (s.cls j).config.priority) ∧
       ∀ j, isContender s j = true → (s.cls j).config.priority = (s.cls k).config.priority →
         (k - Tab.nth s.pointers (s.cls k).config.priority).val ≤
           (j - Tab.nth s.pointers (s.cls k).config.priority).val) ∧
  ∀ s : State, GrantOrderLawful s → s.restart = none → (∃ j, isContender s j = true) →
    ∃ (k : ClassIdx) (c : ConsumerIdx) (r : RecIdx) (rest : List RecIdx) (t : State),
      exec .grant s = .next t ∧ s.queue k = r :: rest ∧ (t.rcd r).place = .queued k c ∧ isCandidate s k c = true ∧
      ((∃ d, isCandidate s k d = true ∧ (s.rcd r).tried.getLsbD d.val = false) →
        (s.rcd r).tried.getLsbD c.val = false) ∧
      ∀ d, d ≠ c → isCandidate s k d = true →
        ((s.rcd r).tried.getLsbD c.val = false → (s.rcd r).tried.getLsbD d.val = false) →
          ((s.cls k).config.mode = .primary → c < d) ∧
          ((s.cls k).config.mode = .balanced →
            (s.port c).load.val + (s.port c).dispatched < (s.port d).load.val + (s.port d).dispatched ∨
              ((s.port c).load.val + (s.port c).dispatched = (s.port d).load.val + (s.port d).dispatched ∧
                s.grantOrder.idxOf c < s.grantOrder.idxOf d))

/-- R50, R170, R174: the cell that a source transmitter begins at a slot outside POR: IDLE while its link is not UP, else HOLD
or GO by the hold state. Inside POR it stays quiet, and a slot changes nothing (log 11). -/
def Obligations.SourceSlotSendsHoldState : Prop :=
  ∀ (n : Fin 4) (s : State),
    (s.resetAsserted = false → ∃ t, exec (.cellSlot (.source n)) s = .next t ∧ t = { s with links := t.links } ∧
      OnlyLink (.source n) s t ∧
      t.link (.source n) =
        { s.link (.source n) with
          wire := .sending
            (if (s.link (.source n)).state = .up then (if s.hold = .asserted then .hold else .go) else .idle) }) ∧
    (s.resetAsserted = true → exec (.cellSlot (.source n)) s = .next s)

/-- R97, R98, R142, R174: the cell that a consumer transmitter begins at a slot outside POR, with no live DELIVER on its wire:
RESPONSE, else NOTICE, else the DELIVER at the head, else IDLE, and IDLE while its link is not UP. A slot empties as its cell
begins, and a NOTICE that is due is then placed. While a live DELIVER is being sent no new cell begins (log 12). Inside POR
the transmitter stays quiet, and a slot changes nothing (log 11). -/
def Obligations.ConsumerSlotChoosesCell : Prop :=
  ∀ (c : Fin 6) (s : State),
    (s.resetAsserted = false → (∀ d, (s.link (.consumer c)).wire ≠ .sending (.deliver d)) →
      ∃ (x : OutCell) (t : State), exec (.cellSlot (.consumer c)) s = .next t ∧ OnlyLink (.consumer c) s t ∧
        t.link (.consumer c) = { s.link (.consumer c) with wire := .sending x } ∧
        ((s.link (.consumer c)).state ≠ .up → x = .idle ∧ t = { s with links := t.links }) ∧
        ((s.link (.consumer c)).state = .up →
          (∀ r, (s.port c).responseSlot = some r → x = .response r ∧ t = { s with links := t.links, ports := t.ports } ∧
            OnlyPort c s t ∧ t.port c = { s.port c with responseSlot := none }) ∧
          (∀ n, (s.port c).responseSlot = none → (s.port c).noticeSlot = some n →
            x = .notice n ∧ t = { s with links := t.links, ports := t.ports, notices := t.notices } ∧ SamePorts s t ∧
              NoticeTest s.notices (s.modPort c fun p => { p with noticeSlot := none }) t) ∧
          (∀ d rest, (s.port c).responseSlot = none → (s.port c).noticeSlot = none → (s.port c).tx = d :: rest →
            x = .deliver d ∧ t = { s with links := t.links }) ∧
          ((s.port c).responseSlot = none → (s.port c).noticeSlot = none → (s.port c).tx = [] →
            x = .idle ∧ t = { s with links := t.links }))) ∧
    (s.resetAsserted = true ∨ (∃ d, (s.link (.consumer c)).wire = .sending (.deliver d)) →
      exec (.cellSlot (.consumer c)) s = .next s)

/-- R11, R98, R99: when the last octet of a DELIVER is sent, a record still QUEUED there leaves the transmit queue for the
tail of the awaiting list, its deadline at the ack deadline of its class in units of 100 µs. A DELIVER whose record has been
withdrawn is finished and changes no list. The wire is then quiet until the next slot (log 13). On any other wire the command
changes nothing (log 11). -/
def Obligations.SendCompletionStartsDeadline : Prop :=
  ∀ (c : Fin 6) (s : State),
    (∀ d k, (s.link (.consumer c)).wire = .sending (.deliver d) → (s.rcd d.tag.index).place = .queued k c →
      ∃ t, exec (.sendCompletion c) s = .next t ∧
        t = { s with links := t.links, records := t.records, ports := t.ports } ∧ OnlyLink (.consumer c) s t ∧
        t.link (.consumer c) = { s.link (.consumer c) with wire := .quiet } ∧ OnlyRecord d.tag.index s t ∧
        t.rcd d.tag.index =
          { s.rcd d.tag.index with place := .awaiting k c ((s.cls k).config.ackDeadline.val * 100) } ∧
        OnlyPort c s t ∧
        t.port c =
          { s.port c with
            tx := (s.port c).tx.filter (fun x => x.tag.index != d.tag.index)
            waitingAck := (s.port c).waitingAck ++ [d.tag.index], deliversSent := satUp (s.port c).deliversSent }) ∧
    (∀ d, ((s.link (.consumer c)).wire = .finishing d ∨
        ((s.link (.consumer c)).wire = .sending (.deliver d) ∧ ∀ k, (s.rcd d.tag.index).place ≠ .queued k c)) →
      ∃ t, exec (.sendCompletion c) s = .next t ∧ t = { s with links := t.links } ∧ OnlyLink (.consumer c) s t ∧
        t.link (.consumer c) = { s.link (.consumer c) with wire := .quiet }) ∧
    ((∀ d, (s.link (.consumer c)).wire ≠ .finishing d ∧ (s.link (.consumer c)).wire ≠ .sending (.deliver d)) →
      exec (.sendCompletion c) s = .next s)

/-! ## The management protocol -/

/-- R147, R148, R152: what becomes of any request on an UP link outside a restart before it is carried out. With the response
slot occupied it is an overrun; with the seq of the replay record it is answered from there and counted as a replay, and a
holder's lease timer restarts. -/
def Obligations.OverrunsAndReplays : Prop :=
  ∀ (i : Instr) (c : ConsumerIdx) (seq : Byte) (s : State), requestOf i = some (c, seq) → Passing s (.consumer c) →
    ((s.port c).responseSlot ≠ none →
      ∃ t, exec i s = .next t ∧ t = { s with links := t.links, ports := t.ports } ∧ GoodCell (.consumer c) s t ∧
        OnlyPort c s t ∧ t.port c = { s.port c with overruns := satUp (s.port c).overruns }) ∧
    (∀ x, (s.port c).responseSlot = none → (s.port c).replay = some x → x.seq = seq →
      ∃ t, exec i s = .next t ∧ t = { s with links := t.links, ports := t.ports, lease := t.lease } ∧
        GoodCell (.consumer c) s t ∧ OnlyPort c s t ∧
        t.port c = { s.port c with responseSlot := some x, replays := satUp (s.port c).replays } ∧
        t.lease = if s.holds c then some ⟨c, s.device.leasePeriod.val * 10000⟩ else s.lease)

/-- R149: a request that needs the lease, from a consumer that does not hold it, is answered NOT_HOLDER and changes nothing
else. R149, R155: a REQUEST whose op names no operation is answered BAD_OP whoever sends it (the command BAD_OP answers so
whatever op it carries: log 21). A WRITE of the holder to codes 6 to 11, the tables that cannot be written, is answered
READ_ONLY, and to a code that names no table BAD_TABLE. -/
def Obligations.RequestsTurnedAway : Prop :=
  (∀ (i : Instr) (c : ConsumerIdx) (seq : Byte) (s : State), requestOf i = some (c, seq) → needsLease i = true →
     Carried s c seq → s.holds c = false → exec i s = .next (replied c seq .notHolder Page.zero s)) ∧
  ∀ (c : Fin 6) (seq : Byte) (s : State), Carried s c seq →
    (∀ op, exec (.badOp c seq op) s = .next (replied c seq .badOp Page.zero s)) ∧
    ∀ (table : Byte) (index : Half) (page : Byte) (image : Page), s.holds c = true →
      (6 ≤ table.toNat ∧ table.toNat ≤ 11 →
        exec (.write c seq table index page image) s = .next (replied c seq .readOnly Page.zero s)) ∧
      (table.toNat = 0 ∨ 12 ≤ table.toNat →
        exec (.write c seq table index page image) s = .next (replied c seq .badTable Page.zero s))

/-- R150, R142, R152: CLAIM takes a FREE lease for the lease period, renews the sender's own, and is answered HELD with the
holder's index when another holds it. Taking a FREE lease places a NOTICE that is then due. -/
def Obligations.ClaimOutcomes : Prop :=
  ∀ (c : Fin 6) (seq : Byte) (s : State), Carried s c seq →
    (s.lease = none → ∃ t, exec (.claim c seq) s = .next t ∧
      t = { s with links := t.links, ports := t.ports, lease := t.lease, notices := t.notices } ∧
      GoodCell (.consumer c) s t ∧ t.lease = some ⟨c, s.device.leasePeriod.val * 10000⟩ ∧ OnlyPort c s t ∧
      t.port c =
        { s.port c with
          noticeSlot := (t.port c).noticeSlot
          responseSlot := (t.port c).responseSlot, replay := (t.port c).responseSlot } ∧
      (t.port c).responseSlot =
        some ⟨seq, .ok, { Page.zero with o0 := BitVec.ofNat 8 c.val, o1 := BitVec.ofNat 8 s.device.leasePeriod.val }⟩ ∧
      NoticeTest s.notices { s with lease := some ⟨c, 0⟩ } t) ∧
    (∀ x, s.lease = some x → x.holder = c →
      exec (.claim c seq) s = .next (replied c seq .ok
        { Page.zero with o0 := BitVec.ofNat 8 c.val, o1 := BitVec.ofNat 8 s.device.leasePeriod.val } s)) ∧
    (∀ x, s.lease = some x → x.holder ≠ c →
      exec (.claim c seq) s =
        .next (replied c seq .held { Page.zero with o0 := BitVec.ofNat 8 x.holder.val } s))

/-- R151, R152: RELEASE from the holder frees the lease with data 0, and so does a lease timer that has run out; a timer that
still runs, or a FREE lease, is left (log 5). -/
def Obligations.LeaseEnds : Prop :=
  (∀ (c : Fin 6) (seq : Byte) (s : State), HolderAsks s c seq →
    exec (.release c seq) s = .next (replied c seq .ok Page.zero { s with lease := none })) ∧
  ∀ s : State,
    (∀ x, s.lease = some x → x.remaining = 0 → exec .leaseTimerExpiry s = .next { s with lease := none }) ∧
    ((∀ x, s.lease = some x → x.remaining ≠ 0) → exec .leaseTimerExpiry s = .next s)

/-- R154: READ of any consumer. A code that names no table is answered BAD_TABLE; an index or page outside the table
BAD_INDEX; else the page as it stands when the request is taken. The ranges of index and page are those of R154 and
section 11.9. -/
def Obligations.ReadAnswersPage : Prop :=
  ∀ (c : Fin 6) (seq table : Byte) (index : Half) (page : Byte) (s : State), Carried s c seq →
    (table.toNat = 0 ∨ 12 ≤ table.toNat →
      exec (.read c seq table index page) s = .next (replied c seq .badTable Page.zero s)) ∧
    ∀ x records pages,
      (table.toNat, x, records, pages) ∈
        [(1, Table.device, 1, 1), (2, .steering .a, 64, 1), (3, .steering .b, 64, 1), (4, .classConfig, 32, 1),
          (5, .consumerConfig, 6, 1), (6, .classCounts, 32, 2), (7, .consumerCounts, 6, 3), (8, .level, 4096, 1),
          (9, .store, 512, 3), (10, .status, 1, 4), (11, .linkCounts, 10, 1)] →
      (records ≤ index.toNat ∨ pages ≤ page.toNat →
        exec (.read c seq table index page) s = .next (replied c seq .badIndex Page.zero s)) ∧
      (index.toNat < records → page.toNat < pages →
        ∃ d, readPage s x index.toNat page.toNat = some d ∧
          exec (.read c seq table index page) s = .next (replied c seq .ok d s))

/-- R22, R34, R67, R81, R101, R156, R157, R171, R172, section 11.9: what each page of each table carries, octet by octet. The
page of a table that can be written carries the record as it stands, STEERING_A that of bank A and STEERING_B that of bank B,
whichever is active. -/
def Obligations.PagesCarryState : Prop :=
  ∀ s : State,
    (∃ p, readPage s .device 0 0 = some p ∧ p.o0.toNat = s.device.leasePeriod.val ∧ p.o1.toNat = s.device.low.val ∧
      (be16 p.o2 p.o3).toNat = s.device.high.val ∧ p.o4 = 0 ∧ p.o5 = 0 ∧ p.o6 = 0 ∧ p.o7 = 0) ∧
    (∀ i : Fin 64,
      (∃ p, readPage s (.steering .a) i.val 0 = some p ∧ CarriesEntry p (Tab.nth s.bankA i)) ∧
        ∃ p, readPage s (.steering .b) i.val 0 = some p ∧ CarriesEntry p (Tab.nth s.bankB i)) ∧
    (∀ k : ClassIdx, ∃ p, readPage s .classConfig k.val 0 = some p ∧ CarriesConfig p (s.cls k).config) ∧
    (∀ c : ConsumerIdx, ∃ p, readPage s .consumerConfig c.val 0 = some p ∧ p.o0.toNat = (s.port c).window.val ∧
      p.o1.toNat = (s.port c).threshold.val ∧ p.o2 = 0 ∧ p.o3 = 0 ∧ p.o4 = 0 ∧ p.o5 = 0 ∧ p.o6 = 0 ∧ p.o7 = 0) ∧
    (∀ (r : RecIdx) (e : EventRecord), e = s.rcd r → ∃ p q w,
      readPage s .store r.val 0 = some p ∧ readPage s .store r.val 1 = some q ∧ readPage s .store r.val 2 = some w ∧
      p.o0 = (match e.place with | .free => 0 | .pending _ => 1 | .queued _ _ => 2 | .awaiting _ _ _ => 3) ∧
      p.o1.toNat = e.generation.val ∧
      p.o2 = (match e.place.cls with | none => 255 | some k => BitVec.ofNat 8 k.val) ∧
      (be16 p.o3 p.o4).toNat = e.addr.link.val * 1024 + e.addr.module.val * 64 + e.addr.channel.val ∧
      p.o5 = (match e.kind with | .pulse => 1 | .level => 2 | .value => 3) ∧ be16 p.o6 p.o7 = e.datum ∧
      be32 q.o0 q.o1 q.o2 q.o3 = e.stamp ∧ q.o4.toNat = e.delivery.toNat ∧ q.o5.toNat = e.failed.toNat ∧
      q.o6 = e.superseded ∧ q.o7.toNat = e.tried.toNat ∧
      w.o0 = (if e.neverDispatched then 1 else 0) ∧
      w.o1 = (match e.place.cur with | none => 255 | some c => BitVec.ofNat 8 c.val) ∧
      (∀ k c d, e.place = .awaiting k c d → be16 w.o2 w.o3 = BitVec.ofNat 16 d) ∧
      ((∀ k c d, e.place ≠ .awaiting k c d) → be16 w.o2 w.o3 = 65535) ∧
      w.o4 = 0 ∧ w.o5 = 0 ∧ w.o6 = 0 ∧ w.o7 = 0) ∧
    (∀ i : Fin 4096, ∃ p, readPage s .level i.val 0 = some p ∧
      p.o0 = (match (Tab.nth s.levels i).confirmed with | none => 2 | some v => BitVec.ofNat 8 v.val) ∧
      p.o1 = (match (Tab.nth s.levels i).candidate with | none => 255 | some v => BitVec.ofNat 8 v.val) ∧
      p.o2.toNat = (Tab.nth s.levels i).count.val ∧
      be16 p.o3 p.o4 = (match (Tab.nth s.levels i).pendingRec with | none => 65535 | some r => BitVec.ofNat 16 r.val) ∧
      p.o5 = 0 ∧ p.o6 = 0 ∧ p.o7 = 0) ∧
    (∀ (k : ClassIdx) (x : ClassRecord), x = s.cls k → ∃ p q,
      readPage s .classCounts k.val 0 = some p ∧ readPage s .classCounts k.val 1 = some q ∧
      p.o0 = (match x.state with | .disabled => 0 | .enabled => 1 | .draining => 2) ∧
      p.o1 = (if x.purge then 1 else 0) ∧ be16 p.o2 p.o3 = BitVec.ofNat 16 x.pendingCount ∧
      be16 p.o4 p.o5 = BitVec.ofNat 16 x.dispatchedCount ∧ be16 p.o6 p.o7 = x.accepted ∧
      be16 q.o0 q.o1 = x.refused ∧ be16 q.o2 q.o3 = x.coalesced ∧ be16 q.o4 q.o5 = x.completed ∧
      be16 q.o6 q.o7 = x.abandoned) ∧
    (∀ (c : ConsumerIdx) (x : Port), x = s.port c → ∃ p q w,
      readPage s .consumerCounts c.val 0 = some p ∧ readPage s .consumerCounts c.val 1 = some q ∧
      readPage s .consumerCounts c.val 2 = some w ∧
      p.o0 = (match x.state with | .off => 0 | .detached => 1 | .waiting => 2 | .active => 3 | .suspect => 4) ∧
      p.o1.toNat = x.load.val ∧ p.o2.toNat = x.consecutive.toNat ∧ p.o3 = BitVec.ofNat 8 x.dispatched ∧
      p.o4 = BitVec.ofNat 8 x.tx.length ∧ p.o5 = BitVec.ofNat 8 x.waitingAck.length ∧
      be16 p.o6 p.o7 = x.deliversSent ∧ be16 q.o0 q.o1 = x.acksTaken ∧ be16 q.o2 q.o3 = x.busyNacks ∧
      be16 q.o4 q.o5 = x.rejects ∧ be16 q.o6 q.o7 = x.expiries ∧ be16 w.o0 w.o1 = x.staleTags ∧
      be16 w.o2 w.o3 = x.overruns ∧ be16 w.o4 w.o5 = x.replays ∧ w.o6 = 0 ∧ w.o7 = 0) ∧
    (∀ i : Fin 10, ∃ p, readPage s .linkCounts i.val 0 = some p ∧ be16 p.o0 p.o1 = (Tab.nth s.links i).badCells ∧
      be16 p.o2 p.o3 = (Tab.nth s.links i).malformed ∧ be16 p.o4 p.o5 = (Tab.nth s.links i).discarded ∧
      p.o6 = 0 ∧ p.o7 = 0) ∧
    ∃ p q w y, readPage s .status 0 0 = some p ∧ readPage s .status 0 1 = some q ∧ readPage s .status 0 2 = some w ∧
      readPage s .status 0 3 = some y ∧
      be32 p.o0 p.o1 p.o2 p.o3 = s.timebase ∧ be16 p.o4 p.o5 = BitVec.ofNat 16 s.freeCount ∧
      p.o6 = (if s.activeBank = .a then 0 else 1) ∧
      p.o7 = (match s.lease with | none => 255 | some x => BitVec.ofNat 8 x.holder.val) ∧
      q.o0 = (if s.frozen then 1 else 0) ∧ q.o1 = (if s.hold = .asserted then 1 else 0) ∧
      be16 q.o2 q.o3 = s.unmatched ∧
      be16 q.o4 q.o5 =
        (match s.lastUnmatched with
          | none => 65535
          | some a => BitVec.ofNat 16 (a.link.val * 1024 + a.module.val * 64 + a.channel.val)) ∧
      be16 q.o6 q.o7 = s.malformedTotal ∧
      (∀ (l : LinkId) (o : Byte),
        (l, o) ∈
          [(.source 0, w.o0), (.source 1, w.o1), (.source 2, w.o2), (.source 3, w.o3), (.consumer 0, w.o4),
            (.consumer 1, w.o5), (.consumer 2, w.o6), (.consumer 3, w.o7), (.consumer 4, y.o0), (.consumer 5, y.o1)] →
        o = (match (s.link l).state with | .down => 0 | .aligning => 1 | .up => 2)) ∧
      y.o2 = BitVec.ofNat 8 s.log.length ∧ y.o3 = s.overwrites ∧ be16 y.o4 y.o5 = s.restartCount ∧
      y.o6 = 0 ∧ y.o7 = 0

/-- R156, R52, R100: WRITE of DEVICE and of CONSUMER by the holder, in the order of their tests. A DEVICE record that is
written has the hold rule applied to its watermarks and restarts the holder's timer at its lease period. -/
def Obligations.WriteDeviceAndConsumer : Prop :=
  ∀ (c : Fin 6) (seq : Byte) (index : Half) (page : Byte) (image : Page) (s : State), HolderAsks s c seq →
    (index ≠ 0 ∨ page ≠ 0 →
      exec (.writeDevice c seq index page image) s = .next (replied c seq .badIndex Page.zero s)) ∧
    (index = 0 → page = 0 → s.frozen = true →
      exec (.writeDevice c seq index page image) s = .next (replied c seq .frozen Page.zero s)) ∧
    (index = 0 → page = 0 → s.frozen = false →
      (image.o0.toNat = 0 ∨ image.o1.toNat < 8 ∨ (be16 image.o2 image.o3).toNat ≤ image.o1.toNat ∨
          511 < (be16 image.o2 image.o3).toNat →
        exec (.writeDevice c seq index page image) s = .next (replied c seq .badValue Page.zero s)) ∧
      ∀ d : Device, d.leasePeriod.val = image.o0.toNat → 1 ≤ d.leasePeriod.val → d.low.val = image.o1.toNat →
        8 ≤ d.low.val → d.high.val = (be16 image.o2 image.o3).toNat → d.low.val < d.high.val →
          exec (.writeDevice c seq index page image) s =
            .next (replied c seq .ok { image with o4 := 0, o5 := 0, o6 := 0, o7 := 0 }
              (placeNotice (applyHold { s with device := d })))) ∧
    (6 ≤ index.toNat ∨ page ≠ 0 →
      exec (.writeConsumer c seq index page image) s = .next (replied c seq .badIndex Page.zero s)) ∧
    ∀ n : Fin 6, index.toNat = n.val → page = 0 →
      (s.frozen = true → exec (.writeConsumer c seq index page image) s = .next (replied c seq .frozen Page.zero s)) ∧
      (s.frozen = false → (s.port n).state ≠ .off →
        exec (.writeConsumer c seq index page image) s = .next (replied c seq .inUse Page.zero s)) ∧
      (s.frozen = false → (s.port n).state = .off →
        (image.o0.toNat = 0 ∨ 8 < image.o0.toNat ∨ image.o1.toNat = 0 ∨ 15 < image.o1.toNat →
          exec (.writeConsumer c seq index page image) s = .next (replied c seq .badValue Page.zero s)) ∧
        ∀ (w : Fin 9) (h : Fin 16), w.val = image.o0.toNat → 1 ≤ w.val → h.val = image.o1.toNat → 1 ≤ h.val →
          exec (.writeConsumer c seq index page image) s =
            .next (replied c seq .ok { Page.zero with o0 := image.o0, o1 := image.o1 }
              (s.modPort n fun p => { p with window := w, threshold := h })))

/-- R31, R32, R33, R78, R79, R80: WRITE of a steering entry and of a CLASS record by the holder, in the order of their tests.
A WRITE that passes replaces the record whole and returns its image. -/
def Obligations.WriteSteeringAndClass : Prop :=
  ∀ (c : Fin 6) (seq : Byte) (bank : Bank) (index : Half) (page : Byte) (image : Page) (s : State), HolderAsks s c seq →
    (64 ≤ index.toNat ∨ page ≠ 0 →
      exec (.writeSteering c seq bank index page image) s = .next (replied c seq .badIndex Page.zero s)) ∧
    (∀ i : Fin 64, index.toNat = i.val → page = 0 →
      (s.frozen = true →
        exec (.writeSteering c seq bank index page image) s = .next (replied c seq .frozen Page.zero s)) ∧
      (s.frozen = false → s.activeBank = bank →
        exec (.writeSteering c seq bank index page image) s = .next (replied c seq .bankActive Page.zero s)) ∧
      (s.frozen = false → s.activeBank ≠ bank →
        (steerOf image = none →
          exec (.writeSteering c seq bank index page image) s = .next (replied c seq .badValue Page.zero s)) ∧
        ∀ e, steerOf image = some e →
          exec (.writeSteering c seq bank index page image) s =
            .next (replied c seq .ok image
              { s with
                bankA := if bank = .a then Tab.put s.bankA i e else s.bankA
                bankB := if bank = .b then Tab.put s.bankB i e else s.bankB }))) ∧
    (32 ≤ index.toNat ∨ page ≠ 0 →
      exec (.writeClass c seq index page image) s = .next (replied c seq .badIndex Page.zero s)) ∧
    ∀ k : ClassIdx, index.toNat = k.val → page = 0 →
      (s.frozen = true → exec (.writeClass c seq index page image) s = .next (replied c seq .frozen Page.zero s)) ∧
      (s.frozen = false → (s.cls k).state ≠ .disabled →
        exec (.writeClass c seq index page image) s = .next (replied c seq .inUse Page.zero s)) ∧
      (s.frozen = false → (s.cls k).state = .disabled →
        (classOf image = none →
          exec (.writeClass c seq index page image) s = .next (replied c seq .badValue Page.zero s)) ∧
        ∀ g, classOf image = some g →
          exec (.writeClass c seq index page image) s =
            .next (replied c seq .ok image (s.modClass k fun x => { x with config := g })))

/-- R23, R32, R68, R79, R172: which page images a steering entry and a class configuration are read from, and that each field
is the octet that section 11.9 gives it. -/
def Obligations.PageImagesAreValidated : Prop :=
  (∀ (p : Page) (e : SteerEntry), steerOf p = some e ↔
    CarriesEntry p e ∧
      (e.valid = true → e.links ≠ 0 ∧ e.kinds ≠ 0 ∧ e.moduleLow ≤ e.moduleHigh ∧ e.channelLow ≤ e.channelHigh)) ∧
  ∀ (p : Page) (g : ClassConfig), classOf p = some g ↔
    CarriesConfig p g ∧ 1 ≤ g.ackDeadline.val ∧ 1 ≤ g.attemptLimit.val ∧ 1 ≤ g.confirmCount.val ∧
      1 ≤ g.pendingLimit.val

/-- R29: SWAP exchanges the banks, whatever they hold, unless the frozen flag is set; another consumer than the holder is
answered NOT_HOLDER. -/
def Obligations.SwapExchangesBanks : Prop :=
  ∀ (c : Fin 6) (seq : Byte) (s : State), Carried s c seq →
    (s.holds c = false → exec (.swap c seq) s = .next (replied c seq .notHolder Page.zero s)) ∧
    (s.holds c = true → s.frozen = true → exec (.swap c seq) s = .next (replied c seq .frozen Page.zero s)) ∧
    (s.holds c = true → s.frozen = false → s.activeBank = .a →
      exec (.swap c seq) s = .next (replied c seq .ok { Page.zero with o0 := 1 } { s with activeBank := .b })) ∧
    (s.holds c = true → s.frozen = false → s.activeBank = .b →
      exec (.swap c seq) s = .next (replied c seq .ok Page.zero { s with activeBank := .a }))

/-- R71, R88: CLASS_ENABLE and CONSUMER_ENABLE by the holder, whatever the frozen flag. -/
def Obligations.EnableOutcomes : Prop :=
  (∀ (c : Fin 6) (seq : Byte) (index : Half) (s : State), HolderAsks s c seq →
     (32 ≤ index.toNat → exec (.classEnable c seq index) s = .next (replied c seq .badIndex Page.zero s)) ∧
     ∀ k : ClassIdx, index.toNat = k.val →
       ((s.cls k).state = .disabled → (s.cls k).config.group = 0 →
         exec (.classEnable c seq index) s = .next (replied c seq .badValue Page.zero s)) ∧
       ((s.cls k).state = .disabled → (s.cls k).config.group ≠ 0 →
         exec (.classEnable c seq index) s =
           .next (replied c seq .ok { Page.zero with o0 := 1 } (s.modClass k fun x => { x with state := .enabled }))) ∧
       ((s.cls k).state = .draining →
         exec (.classEnable c seq index) s =
           .next (replied c seq .ok { Page.zero with o0 := 1 }
             (s.modClass k fun x => { x with state := .enabled, purge := false }))) ∧
       ((s.cls k).state = .enabled →
         exec (.classEnable c seq index) s = .next (replied c seq .ok { Page.zero with o0 := 1 } s))) ∧
  ∀ (c : Fin 6) (seq : Byte) (index : Half) (s : State), HolderAsks s c seq →
    (6 ≤ index.toNat → exec (.consumerEnable c seq index) s = .next (replied c seq .badIndex Page.zero s)) ∧
    ∀ n : ConsumerIdx, index.toNat = n.val →
      ((s.port n).state = .off → (s.link (.consumer n)).state = .up →
        exec (.consumerEnable c seq index) s =
          .next (replied c seq .ok { Page.zero with o0 := 2 } (s.modPort n fun p => { p with state := .waiting }))) ∧
      ((s.port n).state = .off → (s.link (.consumer n)).state ≠ .up →
        exec (.consumerEnable c seq index) s =
          .next (replied c seq .ok { Page.zero with o0 := 1 } (s.modPort n fun p => { p with state := .detached }))) ∧
      ((s.port n).state ≠ .off →
        ∃ code : Byte, ((s.port n).state = .detached → code = 1) ∧ ((s.port n).state = .waiting → code = 2) ∧
          ((s.port n).state = .active → code = 3) ∧ ((s.port n).state = .suspect → code = 4) ∧
          exec (.consumerEnable c seq index) s = .next (replied c seq .ok { Page.zero with o0 := code } s))

/-- R72, R73, R76: CLASS_DISABLE by the holder where nothing is purged, whatever the frozen flag: the errors, a class that is
DISABLED, a DRAINING class without purge, and an ENABLED class without purge, which drains or, holding nothing, is DISABLED
with CLASS_IDLE raised. -/
def Obligations.ClassDisableWithoutPurge : Prop :=
  ∀ (c : Fin 6) (seq : Byte) (index : Half) (flag : Byte) (s : State), HolderAsks s c seq → NoticesPlaced s →
    (32 ≤ index.toNat → exec (.classDisable c seq index flag) s = .next (replied c seq .badIndex Page.zero s)) ∧
    ∀ k : ClassIdx, index.toNat = k.val →
      (1 < flag.toNat → exec (.classDisable c seq index flag) s = .next (replied c seq .badValue Page.zero s)) ∧
      (flag.toNat ≤ 1 → (s.cls k).state = .disabled →
        exec (.classDisable c seq index flag) s = .next (replied c seq .ok Page.zero s)) ∧
      (flag.toNat = 0 → (s.cls k).state = .draining →
        exec (.classDisable c seq index flag) s = .next (replied c seq .ok { Page.zero with o0 := 2 } s)) ∧
      (flag.toNat = 0 → (s.cls k).state = .enabled → s.holding k ≠ 0 →
        exec (.classDisable c seq index flag) s =
          .next (replied c seq .ok { Page.zero with o0 := 2 }
            (s.modClass k fun x => { x with state := .draining, purge := false }))) ∧
      (flag.toNat = 0 → (s.cls k).state = .enabled → s.holding k = 0 →
        exec (.classDisable c seq index flag) s =
          .next (replied c seq .ok Page.zero
            (placeNotice (raiseIdle k (s.modClass k fun x => { x with state := .disabled, purge := false })))))

/-- R5, R15, R49, R72, R73, R76, R138, R142: CLASS_DISABLE with purge by the holder of an ENABLED or DRAINING class. Every
record of the class queue is logged with PURGED and freed, in queue order, and no other record changes; the abandoned counter
rises by their number, which the response reports; ABANDON is raised, and their pending-record pointers are cleared; the hold
rule is applied. The class is purge-draining, or DISABLED with CLASS_IDLE raised if it then holds nothing. -/
def Obligations.PurgeEmptiesClassQueue : Prop :=
  ∀ (c : Fin 6) (seq : Byte) (index : Half) (k : ClassIdx) (ends : Bool) (s : State), HolderAsks s c seq → Sound s →
    index.toNat = k.val → (s.cls k).state = .enabled ∨ (s.cls k).state = .draining →
    ends = decide ((s.cls k).dispatchedCount = 0) →
      ∃ t x, exec (.classDisable c seq index 1) s = .next t ∧
        x = (⟨seq, .ok,
          { Page.zero with
            o0 := if ends then 0 else 2
            o1 := hiOctet (BitVec.ofNat 16 (s.queue k).length)
            o2 := loOctet (BitVec.ofNat 16 (s.queue k).length) }⟩ : Response) ∧
        t = { s with
          links := t.links, levels := t.levels, records := t.records, freeList := s.freeList ++ s.queue k
          queues := t.queues, classes := t.classes, ports := t.ports, notices := t.notices, log := t.log
          overwrites := t.overwrites, nextEntry := t.nextEntry
          hold := holdNext s (s.freeCount + (s.queue k).length)
          lease := some ⟨c, s.device.leasePeriod.val * 10000⟩ } ∧
        GoodCell (.consumer c) s t ∧
        (∀ r ∈ s.queue k, t.rcd r = { EventRecord.por with generation := (s.rcd r).generation + 1 }) ∧
        (∀ r, r ∉ s.queue k → t.rcd r = s.rcd r) ∧ OnlyQueue k s t ∧ t.queue k = [] ∧ OnlyClass k s t ∧
        t.cls k =
          { s.cls k with
            pendingCount := 0, state := if ends then .disabled else .draining, purge := !ends
            abandoned := (t.cls k).abandoned } ∧
        (t.cls k).abandoned.toNat = min 65535 ((s.cls k).abandoned.toNat + (s.queue k).length) ∧
        LogTakesPurged (s.queue k) s t ∧
        (∀ b r, r ∈ s.queue k → (s.rcd r).addr = b → (s.level b).pendingRec = some r →
          t.level b = { s.level b with pendingRec := none }) ∧
        (∀ b, (∀ r ∈ s.queue k, (s.rcd r).addr = b → (s.level b).pendingRec ≠ some r) → t.level b = s.level b) ∧
        t.port c =
          { s.port c with responseSlot := some x, replay := some x, noticeSlot := (t.port c).noticeSlot } ∧
        OtherPorts c s t ∧
        NoticeTest
          { s.notices with
            abandon := s.notices.abandon || !(s.queue k).isEmpty
            idle := if ends then addTo s.notices.idle k.val else s.notices.idle } s t

/-- R11, R12, R13, R15, R49, R75, R76, R94, R98, R128, R138, R142: CONSUMER_DISABLE by the holder, whatever the frozen flag. A
consumer in service becomes OFF with its lists and slots empty and the rest of its port kept. Its records are returned
uncharged in grant order, or freed and logged with PURGED, as at a link loss; a DELIVER on its wire is finished; the response
reports how many records were returned and how many purged; the lease stays. -/
def Obligations.ConsumerDisableOutcomes : Prop :=
  ∀ (c : Fin 6) (seq : Byte) (index : Half) (s : State), HolderAsks s c seq → Sound s →
    (6 ≤ index.toNat → exec (.consumerDisable c seq index) s = .next (replied c seq .badIndex Page.zero s)) ∧
    ∀ n : ConsumerIdx, index.toNat = n.val →
      ((s.port n).state = .off →
        exec (.consumerDisable c seq index) s = .next (replied c seq .ok Page.zero s)) ∧
      ((s.port n).state ≠ .off →
        ∃ t x, exec (.consumerDisable c seq index) s = .next t ∧
          x = (⟨seq, .ok,
            { Page.zero with
              o1 := BitVec.ofNat 8 ((grantedTo s n).filter fun r => !purgedHere s r).length
              o2 := BitVec.ofNat 8 ((grantedTo s n).filter (purgedHere s)).length }⟩ : Response) ∧
          t = { s with
            links := t.links, levels := t.levels, records := t.records, freeList := t.freeList, queues := t.queues
            classes := t.classes, ports := t.ports, hold := t.hold, notices := t.notices, log := t.log
            overwrites := t.overwrites, nextEntry := t.nextEntry
            lease := some ⟨c, s.device.leasePeriod.val * 10000⟩ } ∧
          (∀ l, t.link l =
            { (if l = .consumer c then (s.link l).heard else s.link l) with
              wire := if l = .consumer n then wireWithdrawn s n else (s.link l).wire }) ∧
          (∀ m, t.port m =
            { s.port m with
              state := if m = n then .off else (s.port m).state
              tx := if m = n then [] else (s.port m).tx
              waitingAck := if m = n then [] else (s.port m).waitingAck
              dispatched := if m = n then 0 else (s.port m).dispatched
              responseSlot := if m = c then some x else if m = n then none else (s.port m).responseSlot
              replay := if m = c then some x else (s.port m).replay
              noticeSlot := (t.port m).noticeSlot }) ∧
          (n ≠ c → (t.port n).noticeSlot = none) ∧ ReturnsAll n s t ∧
          ReturnNotices n s (s.modPort n fun p => { p with noticeSlot := none }) t)

/-- R38, R40, R158, R159, R102, R171: SET_TIME, CLEAR_COUNTS and FREEZE by the holder, whatever the frozen flag. -/
def Obligations.SetTimeClearCountsFreeze : Prop :=
  ∀ (c : Fin 6) (seq : Byte) (s : State), HolderAsks s c seq →
    (∀ value : Stamp, ∃ d : Page, be32 d.o0 d.o1 d.o2 d.o3 = s.timebase ∧ d.o4 = 0 ∧ d.o5 = 0 ∧ d.o6 = 0 ∧ d.o7 = 0 ∧
      exec (.setTime c seq value) s = .next (replied c seq .ok d { s with timebase := value })) ∧
    exec (.freeze c seq) s = .next (replied c seq .ok { Page.zero with o0 := 1 } { s with frozen := true }) ∧
    ∃ u, exec (.clearCounts c seq) s = .next (replied c seq .ok Page.zero u) ∧
      u = { s with classes := u.classes, ports := u.ports, links := u.links, malformedTotal := 0, unmatched := 0 } ∧
      (∀ k, u.cls k =
        { s.cls k with accepted := 0, refused := 0, coalesced := 0, completed := 0, abandoned := 0 }) ∧
      (∀ n, u.port n =
        { s.port n with
          deliversSent := 0, acksTaken := 0, busyNacks := 0, rejects := 0, expiries := 0, staleTags := 0
          overruns := 0, replays := 0 }) ∧
      ∀ l, u.link l = { s.link l with badCells := 0, malformed := 0, discarded := 0 }

/-- R139: TAKE_LOG by the holder. Pages 0 and 1 leave the oldest entry in the log and page 2 removes it. -/
def Obligations.TakeLogReadsOldestEntry : Prop :=
  ∀ (c : Fin 6) (seq : Byte) (index : Half) (page : Byte) (s : State), HolderAsks s c seq →
    (index ≠ 0 ∨ 2 < page.toNat →
      exec (.takeLog c seq index page) s = .next (replied c seq .badIndex Page.zero s)) ∧
    (index = 0 → page.toNat ≤ 2 → s.log = [] →
      exec (.takeLog c seq index page) s = .next (replied c seq .empty Page.zero s)) ∧
    ∀ e rest, index = 0 → s.log = e :: rest →
      (page.toNat = 0 → ∃ d : Page, exec (.takeLog c seq index page) s = .next (replied c seq .ok d s) ∧
        d.o0 = e.number ∧ d.o1.toNat = e.cls.val ∧
        (be16 d.o2 d.o3).toNat = e.addr.link.val * 1024 + e.addr.module.val * 64 + e.addr.channel.val ∧
        d.o4.toNat =
          (match e.kind with | .pulse => 1 | .level => 2 | .value => 3) +
            16 * (match e.reason with | .exhausted => 1 | .rejected => 2 | .purged => 3 | .displaced => 4) ∧
        be16 d.o5 d.o6 = e.datum ∧ d.o7 = e.superseded) ∧
      (page.toNat = 1 → ∃ d : Page, exec (.takeLog c seq index page) s = .next (replied c seq .ok d s) ∧
        be32 d.o0 d.o1 d.o2 d.o3 = e.arrival ∧ be32 d.o4 d.o5 d.o6 d.o7 = e.abandonStamp) ∧
      (page.toNat = 2 →
        exec (.takeLog c seq index page) s =
          .next (replied c seq .ok
            { Page.zero with
              o0 := e.number, o1 := e.failed.setWidth 8, o2 := e.delivery.setWidth 8
              o3 := BitVec.ofNat 8 rest.length, o4 := s.overwrites } { s with log := rest }))

/-! ## Restart and time -/

/-- R160, R21, R37, R54, R66, R84, R104, R119, R140, R145, R171: a RESTART of the holder, with its tests. One that is taken
gives no response yet, frees every record, and puts each block at the values that its rule gives. The links keep their states,
counts and reports (R164), and a DELIVER on a wire is finished (R98, R161). Every replay record stands, the requester's too, until
the end (log 19). R25, R64, R168: the cells that Steering has not yet taken are taken first, those of each link in the order of
their arrival, and the links in an order of the sender's choice, which may be any (R48; log 23). The REQUEST is a good cell and
ends its own link's bad-cell run (R164, R165). -/
def Obligations.RestartTakesEveryBlock : Prop :=
  (∀ (turn : List (Fin 4)) (waiting : Tab (List Arrival) 4), (∀ n, ∀ x ∈ Tab.nth waiting n, x.addr.link = n) →
     ∀ n, (inTurn turn waiting).filter (fun x => x.addr.link == n) = Tab.nth waiting n) ∧
  (∀ (order : List Arrival) (waiting : Tab (List Arrival) 4),
     (∀ n, order.filter (fun x => x.addr.link == n) = Tab.nth waiting n) →
       inTurn (order.map fun x => x.addr.link) waiting = order) ∧
  ∀ (c : Fin 6) (seq flag : Byte) (s : State), HolderAsks s c seq →
    (1 < flag.toNat → exec (.restart c seq flag) s = .next (replied c seq .badValue Page.zero s)) ∧
    (flag = 0 → s.frozen = true → exec (.restart c seq flag) s = .next (replied c seq .frozen Page.zero s)) ∧
    ∀ keep : Bool, flag = (if keep then 1 else 0) → (s.frozen = true → keep = true) →
      ∃ u t, u = (inTurn (s.turns.headD []) s.handed).foldl takeArrival s ∧ exec (.restart c seq flag) s = .next t ∧
        t.restart = some ⟨c, seq, keep⟩ ∧ t.restartCount = satUp s.restartCount ∧ t.lease = none ∧
        t.device = (if keep then s.device else ⟨50, 32, 64⟩) ∧
        (∀ r, (u.rcd r).place = .free → t.rcd r = { EventRecord.por with generation := (u.rcd r).generation }) ∧
        (∀ r, (u.rcd r).place ≠ .free → t.rcd r = { EventRecord.por with generation := (u.rcd r).generation + 1 }) ∧
        ((∀ n, Tab.nth s.handed n = []) → u = s) ∧
        t.freeList = List.finRange 512 ∧ (∀ k, t.queue k = []) ∧
        (keep = true → t.bankA = s.bankA ∧ t.bankB = s.bankB ∧ t.activeBank = s.activeBank) ∧
        (keep = false → t.activeBank = .a ∧
          ∀ i, Tab.nth t.bankA i = SteerEntry.por ∧ Tab.nth t.bankB i = SteerEntry.por) ∧
        t.unmatched = 0 ∧ t.lastUnmatched = none ∧ t.hold = .asserted ∧
        (∀ a, t.level a = ⟨none, none, 0, none⟩) ∧
        (∀ k, keep = false → t.cls k = ClassRecord.por) ∧
        (∀ k, keep = true → t.cls k =
          { ClassRecord.por with
            config := (s.cls k).config
            state := if (s.cls k).state = .enabled then .enabled else .disabled }) ∧
        (∀ n, keep = false → t.port n =
          { Port.por with responseSlot := (s.port n).responseSlot, replay := (s.port n).replay }) ∧
        (∀ n, keep = true → t.port n =
          { Port.por with
            window := (s.port n).window, threshold := (s.port n).threshold
            responseSlot := (s.port n).responseSlot, replay := (s.port n).replay
            state :=
              if (s.port n).state = .off then .off
              else if (s.link (.consumer n)).state = .up then .waiting else .detached }) ∧
        t.grantOrder = [0, 1, 2, 3, 4, 5] ∧ (∀ p, Tab.nth t.pointers p = 0) ∧
        t.log = [] ∧ t.overwrites = 0 ∧ t.nextEntry = 0 ∧ t.notices = NoticeSet.none ∧
        (∀ l, t.link l =
          { (if l = .consumer c then (s.link l).heard else s.link l) with
            badCells := 0, malformed := 0, discarded := 0, wire := (t.link l).wire }) ∧
        (∀ l d, (s.link l).wire = .sending (.deliver d) → (t.link l).wire = .finishing d) ∧
        (∀ l, (∀ d, (s.link l).wire ≠ .sending (.deliver d)) → (t.link l).wire = (s.link l).wire) ∧
        (∀ n, Tab.nth t.handed n = []) ∧
        t.malformedTotal = 0 ∧ t.frozen = s.frozen ∧ t.timebase = s.timebase ∧ t.resetAsserted = s.resetAsserted ∧
        t.late = s.late ∧ t.turns = s.turns.tail ∧ t.freeDraws = s.freeDraws

/-- R162, R54, R49: the end of a soft restart. The response reports the restart count and the retain flag; it is placed if
the requester's link is UP and is its replay record; every other replay record is absent; and the hold rule is applied with
the restart over. With no restart in progress nothing happens (log 11). -/
def Obligations.RestartEnds : Prop :=
  ∀ s : State,
    (s.restart = none → exec .endOfRestart s = .next s) ∧
    ∀ job x, s.restart = some job →
      x = (⟨job.seq, .ok,
        { Page.zero with
          o0 := hiOctet s.restartCount, o1 := loOctet s.restartCount, o2 := if job.retain then 1 else 0 }⟩ : Response) →
      ∃ t, exec .endOfRestart s = .next t ∧
        t = { s with ports := t.ports, restart := none, hold := t.hold, notices := t.notices } ∧
        (∀ n, n ≠ job.requester → t.port n = { s.port n with replay := none }) ∧
        t.port job.requester =
          { s.port job.requester with
            replay := some x
            responseSlot :=
              if (s.link (.consumer job.requester)).state = .up then some x
              else (s.port job.requester).responseSlot } ∧
        t.hold = holdNext { s with restart := none } s.freeCount ∧
        t.notices = { s.notices with hold := s.notices.hold || holdRaises s s.freeCount }

/-- R38, R1, R152 (log 4): one microsecond outside POR. The Timebase rises by one and wraps, each running deadline and the
lease timer fall by one, down to 0, and nothing else changes. Inside POR nothing changes. -/
def Obligations.MicrosecondPasses : Prop :=
  ∀ s : State,
    (s.resetAsserted = true → exec .timebaseCount s = .next s) ∧
    (s.resetAsserted = false → ∃ t, exec .timebaseCount s = .next t ∧
      t = { s with timebase := s.timebase + 1, records := t.records, lease := t.lease } ∧
      (∀ r k c d, (s.rcd r).place = .awaiting k c d →
        t.rcd r = { s.rcd r with place := .awaiting k c (d - 1) }) ∧
      (∀ r, (∀ k c d, (s.rcd r).place ≠ .awaiting k c d) → t.rcd r = s.rcd r) ∧
      (s.lease = none → t.lease = none) ∧
      ∀ x, s.lease = some x → t.lease = some { x with remaining := x.remaining - 1 })

/-! ## Cells -/

/-- R166, R167, R172, sections 11.7 and 11.8: every well-formed command that is a cell is the command that the receiver reads
from its cell, with every field at every value. R165, R166: a symbol that decodes to no octet makes its cell a bad cell, and
so does an octet 15 that is not the CRC-8 of the octets before it. -/
def Obligations.CellsDecodeToTheirCommands : Prop :=
  (∀ (i : Instr) (l : LinkId) (x : Cell), wellFormed i = true → encodeCell i = some (l, x) →
     decodeCell l x = i ∧ decodeSymbols l x.symbols = i) ∧
  (∀ (l : LinkId) (x : Cell), decodeSymbols l x.symbols = decodeCell l x) ∧
  (∀ (l : LinkId) (x : Tab (Option Byte) 16), (∃ i, Tab.nth x i = none) → decodeSymbols l x = .badCell l) ∧
  ∀ (l : LinkId) (x : Cell), x.o15 ≠ crc8 x.body → decodeCell l x = .badCell l

/-- R166: the CRC-8 of octets is the remainder of their polynomial, most significant bit first and times x^8, the register's
start at 255 added at its head, by the generator x^8 + x^2 + x + 1; a sum of polynomials over two elements is an exclusive or.
R170, R172, sections 11.7 and 11.8: the 16 octets of each cell that the part sends, with its CRC-8 in octet 15. -/
def Obligations.SentCellsCarryState : Prop :=
  (∀ octets : List Byte, ∃ q : Nat,
     (255 <<< (8 * octets.length)) ^^^ (octetsNumber octets <<< 8) = timesGenerator q ^^^ (crc8 octets).toNat) ∧
  (∀ x : OutCell, x.cell.o15 = crc8 x.cell.body ∧ x.cell.good = true) ∧
  (∀ x o, (x, o) ∈ [(OutCell.idle, (0x00#8 : Byte)), (.hold, 0x12#8), (.go, 0x13#8)] →
    { x.cell with o15 := 0 } = ⟨o, 0, 0, 0, 0, 0, 0, 0, 0, 0, 0, 0, 0, 0, 0, 0⟩) ∧
  (∀ (d : Deliver) (x : Cell), x = (OutCell.deliver d).cell →
    x.o0 = 0x21#8 ∧ (be16 x.o1 x.o2).toNat = d.tag.generation.val * 512 + d.tag.index.val ∧
      x.o3.toNat = d.delivery.toNat ∧ x.o4.toNat = d.cls.val ∧
      (be16 x.o5 x.o6).toNat = d.addr.link.val * 1024 + d.addr.module.val * 64 + d.addr.channel.val ∧
      x.o7 = (match d.kind with | .pulse => 1 | .level => 2 | .value => 3) ∧ be16 x.o8 x.o9 = d.datum ∧
      be32 x.o10 x.o11 x.o12 x.o13 = d.stamp ∧ x.o14 = d.superseded) ∧
  (∀ (r : Response) (x : Cell), x = (OutCell.response r).cell →
    x.o0 = 0x22#8 ∧ x.o1 = r.seq ∧
      x.o2 = (match r.status with
        | .ok => 0 | .held => 1 | .notHolder => 2 | .badOp => 3 | .badTable => 4 | .badIndex => 5 | .badValue => 6
        | .readOnly => 7 | .inUse => 8 | .bankActive => 9 | .frozen => 10 | .empty => 11) ∧
      ⟨x.o3, x.o4, x.o5, x.o6, x.o7, x.o8, x.o9, x.o10⟩ = r.data ∧ x.o11 = 0 ∧ x.o12 = 0 ∧ x.o13 = 0 ∧ x.o14 = 0) ∧
  ∀ (n : Notice) (x : Cell), x = (OutCell.notice n).cell → n.occupancy ≤ 16 →
    x.o0 = 0x23#8 ∧ x.o1 = (if n.abandon then 1 else 0) ∧ x.o2.toNat = n.occupancy ∧
      x.o3.toNat = n.suspects.toNat ∧ be32 x.o4 x.o5 x.o6 x.o7 = n.idle ∧ x.o8 = (if n.hold then 1 else 0) ∧
      x.o9 = 0 ∧ x.o10 = 0 ∧ x.o11 = 0 ∧ x.o12 = 0 ∧ x.o13 = 0 ∧ x.o14 = 0

/-! ## Laws that every step keeps -/

/-- R105, R138, R164: every step keeps the Grant Order List a list of each consumer once, the Abandon Log at 16 entries at
most, and the alignment count and bad-cell run at 0 outside the states they run in. R65, R161, R168: and every cell that
waits for Steering a well-formed cell of its own link, that link UP and no restart in progress (log 22, log 23). -/
def Obligations.SmallLawsAreKept : Prop :=
  ∀ s t : State, step s = .next t →
    (GrantOrderLawful s → GrantOrderLawful t) ∧ (LogWithinCapacity s → LogWithinCapacity t) ∧
      (LinkCountsLawful s → LinkCountsLawful t) ∧ (HandedLawful s → HandedLawful t)

/-- R2, R4, R6, R87: every step keeps each record in exactly the collection of its state, once. -/
def Obligations.EveryStepKeepsRecordsPlaced : Prop := ∀ s t : State, Placed s → step s = .next t → Placed t

/-- R6, R69, R70, R76, R87, R92, R109, R125: every step keeps the counts those of the store, every class within its pending
limit, every consumer within its window, a SERIAL class at one dispatched record, a DISABLED class empty, and every living
record below its attempt limit. -/
def Obligations.EveryStepKeepsLimits : Prop :=
  ∀ s t : State,
    Placed s ∧ Counted s ∧ ClassesLawful s ∧ PortsLawful s ∧ WithinLimits s ∧ AttemptsBelowLimit s ∧ Configured s →
      step s = .next t →
      Counted t ∧ ClassesLawful t ∧ PortsLawful t ∧ WithinLimits t ∧ AttemptsBelowLimit t ∧ Configured t

/-- R63: every step keeps the pointers of the Level Image lawful. -/
def Obligations.EveryStepKeepsPointersLawful : Prop :=
  ∀ s t : State, Placed s → PointersLawful s → step s = .next t → PointersLawful t

/-- R150, R86, R89, R93: every step keeps a lease holder's link UP, and each consumer's state in step with its link. -/
def Obligations.EveryStepKeepsPortsWithLinks : Prop :=
  ∀ s t : State, step s = .next t → (HolderLinkUp s → HolderLinkUp t) ∧ (PortsFollowLinks s → PortsFollowLinks t)

/-- R49, R142: every step leaves the hold state as the hold rule gives it, and no NOTICE waiting to be built that is due. -/
def Obligations.EveryStepKeepsHoldAndNotices : Prop :=
  ∀ s t : State, DeviceLawful s.device ∧ HoldLawful s ∧ NoticesPlaced s → step s = .next t →
    DeviceLawful t.device ∧ HoldLawful t ∧ NoticesPlaced t

/-- R159, R38, R40: once set, the frozen flag stays until POR; and nothing changes the Timebase but POR, a microsecond and
SET_TIME. -/
def Obligations.FrozenFlagAndTimebase : Prop :=
  ∀ (i : Instr) (s t : State), exec i s = .next t →
    (s.frozen = true → i ≠ .por → t.frozen = true) ∧
      (i ≠ .por → i ≠ .timebaseCount → (∀ c seq value, i ≠ .setTime c seq value) → t.timebase = s.timebase)
end

