-- ==== Sys2Proof/Laws/Tables.lean ====
section
/-! SUPPORT. The laws of a table: what each operation on it reads as, entry by entry. -/

namespace Sys2Proof

variable {α : Type} {n : Nat}

/-- Two tables with the same entries are the same table. -/
theorem Tab.ext_nth {t u : Tab α n} (h : ∀ i, Tab.nth t i = Tab.nth u i) : t = u := by
  apply Vector.ext
  intro i hi
  have := h ⟨i, hi⟩
  simpa [Tab.nth] using this

@[simp] theorem Tab.nth_all (x : α) (i : Fin n) : Tab.nth (Tab.all n x) i = x := by
  simp [Tab.nth, Tab.all]

theorem Tab.nth_put (t : Tab α n) (i j : Fin n) (x : α) :
    Tab.nth (Tab.put t i x) j = if j = i then x else Tab.nth t j := by
  simp only [Tab.nth, Tab.put, Vector.toList, List.getElem_set, Fin.ext_iff]
  by_cases h : i.val = j.val
  · simp [h]
  · simp [h, Ne.symm h]

@[simp] theorem Tab.nth_put_same (t : Tab α n) (i : Fin n) (x : α) : Tab.nth (Tab.put t i x) i = x := by
  simp [Tab.nth_put]

@[simp] theorem Tab.nth_put_ne (t : Tab α n) {i j : Fin n} (x : α) (h : j ≠ i) :
    Tab.nth (Tab.put t i x) j = Tab.nth t j := by
  simp [Tab.nth_put, h]

theorem Tab.nth_upd (t : Tab α n) (i j : Fin n) (f : α → α) :
    Tab.nth (Tab.upd t i f) j = if j = i then f (Tab.nth t j) else Tab.nth t j := by
  by_cases h : j = i
  · subst h
    simp [Tab.upd]
  · simp [Tab.upd, h]

@[simp] theorem Tab.nth_upd_same (t : Tab α n) (i : Fin n) (f : α → α) :
    Tab.nth (Tab.upd t i f) i = f (Tab.nth t i) := by
  simp [Tab.nth_upd]

@[simp] theorem Tab.nth_upd_ne (t : Tab α n) {i j : Fin n} (f : α → α) (h : j ≠ i) :
    Tab.nth (Tab.upd t i f) j = Tab.nth t j := by
  simp [Tab.nth_upd, h]

@[simp] theorem Tab.nth_each (t : Tab α n) (f : α → α) (i : Fin n) : Tab.nth (Tab.each t f) i = f (Tab.nth t i) := by
  simp [Tab.nth, Tab.each]

@[simp] theorem Tab.nth_eachIdx (t : Tab α n) (f : Nat → α → α) (i : Fin n) :
    Tab.nth (Tab.eachIdx t f) i = f i.val (Tab.nth t i) := by
  simp [Tab.nth, Tab.eachIdx, mapFrom_eq]

/-- Two changes of one entry are one change. -/
@[simp] theorem Tab.upd_upd_same (t : Tab α n) (i : Fin n) (f g : α → α) :
    Tab.upd (Tab.upd t i f) i g = Tab.upd t i (fun x => g (f x)) := by
  apply Tab.ext_nth
  intro j
  by_cases h : j = i
  · subst h
    simp
  · simp [h]

/-- Changes of different entries commute. -/
theorem Tab.upd_comm (t : Tab α n) {i j : Fin n} (h : i ≠ j) (f g : α → α) :
    Tab.upd (Tab.upd t i f) j g = Tab.upd (Tab.upd t j g) i f := by
  apply Tab.ext_nth
  intro k
  by_cases hi : k = i
  · subst hi
    simp [h]
  · by_cases hj : k = j
    · subst hj
      simp [hi]
    · simp [hi, hj]

/-- A change that leaves the entry as it is leaves the table. -/
theorem Tab.upd_eq_self (t : Tab α n) (i : Fin n) (f : α → α) (h : f (Tab.nth t i) = Tab.nth t i) :
    Tab.upd t i f = t := by
  apply Tab.ext_nth
  intro j
  by_cases hj : j = i
  · subst hj
    simpa using h
  · simp [hj]

/-- The entries of a table as a list, by number. -/
theorem Tab.toList_getElem (t : Tab α n) (i : Nat) (h : i < t.toList.length) :
    t.toList[i] = Tab.nth t ⟨i, by simpa using h⟩ := rfl

end Sys2Proof
end

