-- ==== Sys2Proof/Laws/State.lean ====
section
/-! SUPPORT. What each field and each part of the state reads as after each named update. -/

namespace Sys2Proof.Machine

/-- Different links have different numbers. -/
theorem linkIndex_inj {l m : LinkId} : linkIndex l = linkIndex m ↔ l = m := by
  cases l <;> cases m <;> simp [linkIndex, Fin.ext_iff] <;> omega

/-- Different addresses have different Level Image entries (R56). -/
theorem levelIndex_inj {a b : Addr} : levelIndex a = levelIndex b ↔ a = b := by
  cases a with
  | mk l m c =>
    cases b with
    | mk l' m' c' =>
      simp only [levelIndex, Fin.ext_iff, Addr.mk.injEq]
      omega

/-! ## Parts of a state that is written out -/

section

variable (s : State)
  (x0 : Stamp)
  (x1 : Bool)
  (x2 : Tab Link 10)
  (x3 : Counter)
  (x4 : Tab SteerEntry 64)
  (x5 : Tab SteerEntry 64)
  (x6 : Bank)
  (x7 : Counter)
  (x8 : Option Addr)
  (x9 : HoldState)
  (x10 : Tab (List Arrival) 4)
  (x11 : Tab LevelEntry 4096)
  (x12 : Tab EventRecord 512)
  (x13 : List RecIdx)
  (x14 : Tab (List RecIdx) 32)
  (x15 : Tab ClassRecord 32)
  (x16 : Tab Port 6)
  (x17 : List ConsumerIdx)
  (x18 : Tab ClassIdx 4)
  (x19 : List LogEntry)
  (x20 : Byte)
  (x21 : Byte)
  (x22 : NoticeSet)
  (x23 : Option Lease)
  (x24 : Bool)
  (x25 : Device)
  (x26 : Option RestartJob)
  (x27 : Counter)
  (x28 : List Bool)
  (x29 : List (List (Fin 4)))
  (x30 : Nat)
  (x31 : List Instr)

@[simp] theorem State.link_mk (m : LinkId) : (State.mk x0 x1 x2 x3 x4 x5 x6 x7 x8 x9 x10 x11 x12 x13 x14 x15 x16
    x17 x18 x19 x20 x21 x22 x23 x24 x25 x26 x27 x28 x29 x30 x31).link m = Tab.nth x2 (linkIndex m) := rfl

@[simp] theorem State.nth_links (m : LinkId) : Tab.nth s.links (linkIndex m) = s.link m := rfl

@[simp] theorem State.rcd_mk (q : RecIdx) : (State.mk x0 x1 x2 x3 x4 x5 x6 x7 x8 x9 x10 x11 x12 x13 x14 x15 x16
    x17 x18 x19 x20 x21 x22 x23 x24 x25 x26 x27 x28 x29 x30 x31).rcd q = Tab.nth x12 (q) := rfl

@[simp] theorem State.nth_records (q : RecIdx) : Tab.nth s.records (q) = s.rcd q := rfl

@[simp] theorem State.cls_mk (j : ClassIdx) : (State.mk x0 x1 x2 x3 x4 x5 x6 x7 x8 x9 x10 x11 x12 x13 x14 x15
    x16 x17 x18 x19 x20 x21 x22 x23 x24 x25 x26 x27 x28 x29 x30 x31).cls j = Tab.nth x15 (j) := rfl

@[simp] theorem State.nth_classes (j : ClassIdx) : Tab.nth s.classes (j) = s.cls j := rfl

@[simp] theorem State.queue_mk (j : ClassIdx) : (State.mk x0 x1 x2 x3 x4 x5 x6 x7 x8 x9 x10 x11 x12 x13 x14 x15
    x16 x17 x18 x19 x20 x21 x22 x23 x24 x25 x26 x27 x28 x29 x30 x31).queue j = Tab.nth x14 (j) := rfl

@[simp] theorem State.nth_queues (j : ClassIdx) : Tab.nth s.queues (j) = s.queue j := rfl

@[simp] theorem State.port_mk (d : ConsumerIdx) : (State.mk x0 x1 x2 x3 x4 x5 x6 x7 x8 x9 x10 x11 x12 x13 x14
    x15 x16 x17 x18 x19 x20 x21 x22 x23 x24 x25 x26 x27 x28 x29 x30 x31).port d = Tab.nth x16 (d) := rfl

@[simp] theorem State.nth_ports (d : ConsumerIdx) : Tab.nth s.ports (d) = s.port d := rfl

@[simp] theorem State.level_mk (b : Addr) : (State.mk x0 x1 x2 x3 x4 x5 x6 x7 x8 x9 x10 x11 x12 x13 x14 x15 x16
    x17 x18 x19 x20 x21 x22 x23 x24 x25 x26 x27 x28 x29 x30 x31).level b = Tab.nth x11 (levelIndex b) := rfl

@[simp] theorem State.nth_levels (b : Addr) : Tab.nth s.levels (levelIndex b) = s.level b := rfl

@[simp] theorem State.freeCount_mk : (State.mk x0 x1 x2 x3 x4 x5 x6 x7 x8 x9 x10 x11 x12 x13 x14 x15 x16 x17 x18
    x19 x20 x21 x22 x23 x24 x25 x26 x27 x28 x29 x30 x31).freeCount = x13.length := rfl

@[simp] theorem State.holding_mk (j : ClassIdx) : (State.mk x0 x1 x2 x3 x4 x5 x6 x7 x8 x9 x10 x11 x12 x13 x14
    x15 x16 x17 x18 x19 x20 x21 x22 x23 x24 x25 x26 x27 x28 x29 x30 x31).holding j = (Tab.nth x15 j).pendingCount +
    (Tab.nth x15 j).dispatchedCount := rfl

/-- Who holds the lease depends on the lease alone. -/
theorem State.holds_congr {s t : State} (h : t.lease = s.lease) (c : ConsumerIdx) : t.holds c = s.holds c := by
  simp [State.holds, h]

/-- Whether a class is purge-draining depends on its record alone. -/
theorem State.purgeDraining_congr {s t : State} {k : ClassIdx} (h : t.cls k = s.cls k) :
    t.purgeDraining k = s.purgeDraining k := by
  simp [State.purgeDraining, h]

end

/-! ## modLink -/

section

variable (s : State) (l : LinkId) (f : Link → Link)

@[simp] theorem State.modLink_timebase : (s.modLink l f).timebase = s.timebase := rfl
@[simp] theorem State.modLink_resetAsserted : (s.modLink l f).resetAsserted = s.resetAsserted := rfl
@[simp] theorem State.modLink_malformedTotal : (s.modLink l f).malformedTotal = s.malformedTotal := rfl
@[simp] theorem State.modLink_bankA : (s.modLink l f).bankA = s.bankA := rfl
@[simp] theorem State.modLink_bankB : (s.modLink l f).bankB = s.bankB := rfl
@[simp] theorem State.modLink_activeBank : (s.modLink l f).activeBank = s.activeBank := rfl
@[simp] theorem State.modLink_unmatched : (s.modLink l f).unmatched = s.unmatched := rfl
@[simp] theorem State.modLink_lastUnmatched : (s.modLink l f).lastUnmatched = s.lastUnmatched := rfl
@[simp] theorem State.modLink_hold : (s.modLink l f).hold = s.hold := rfl
@[simp] theorem State.modLink_handed : (s.modLink l f).handed = s.handed := rfl
@[simp] theorem State.modLink_levels : (s.modLink l f).levels = s.levels := rfl
@[simp] theorem State.modLink_records : (s.modLink l f).records = s.records := rfl
@[simp] theorem State.modLink_freeList : (s.modLink l f).freeList = s.freeList := rfl
@[simp] theorem State.modLink_queues : (s.modLink l f).queues = s.queues := rfl
@[simp] theorem State.modLink_classes : (s.modLink l f).classes = s.classes := rfl
@[simp] theorem State.modLink_ports : (s.modLink l f).ports = s.ports := rfl
@[simp] theorem State.modLink_grantOrder : (s.modLink l f).grantOrder = s.grantOrder := rfl
@[simp] theorem State.modLink_pointers : (s.modLink l f).pointers = s.pointers := rfl
@[simp] theorem State.modLink_log : (s.modLink l f).log = s.log := rfl
@[simp] theorem State.modLink_overwrites : (s.modLink l f).overwrites = s.overwrites := rfl
@[simp] theorem State.modLink_nextEntry : (s.modLink l f).nextEntry = s.nextEntry := rfl
@[simp] theorem State.modLink_notices : (s.modLink l f).notices = s.notices := rfl
@[simp] theorem State.modLink_lease : (s.modLink l f).lease = s.lease := rfl
@[simp] theorem State.modLink_frozen : (s.modLink l f).frozen = s.frozen := rfl
@[simp] theorem State.modLink_device : (s.modLink l f).device = s.device := rfl
@[simp] theorem State.modLink_restart : (s.modLink l f).restart = s.restart := rfl
@[simp] theorem State.modLink_restartCount : (s.modLink l f).restartCount = s.restartCount := rfl
@[simp] theorem State.modLink_late : (s.modLink l f).late = s.late := rfl
@[simp] theorem State.modLink_turns : (s.modLink l f).turns = s.turns := rfl
@[simp] theorem State.modLink_freeDraws : (s.modLink l f).freeDraws = s.freeDraws := rfl
@[simp] theorem State.modLink_pending : (s.modLink l f).pending = s.pending := rfl
theorem State.modLink_links : (s.modLink l f).links = Tab.upd s.links (linkIndex l) f := rfl
@[simp] theorem State.modLink_rcd (q : RecIdx) : (s.modLink l f).rcd q = s.rcd q := rfl
@[simp] theorem State.modLink_cls (j : ClassIdx) : (s.modLink l f).cls j = s.cls j := rfl
@[simp] theorem State.modLink_queue (j : ClassIdx) : (s.modLink l f).queue j = s.queue j := rfl
@[simp] theorem State.modLink_port (d : ConsumerIdx) : (s.modLink l f).port d = s.port d := rfl
@[simp] theorem State.modLink_level (b : Addr) : (s.modLink l f).level b = s.level b := rfl
@[simp] theorem State.modLink_freeCount : (s.modLink l f).freeCount = s.freeCount := rfl
@[simp] theorem State.modLink_holds (x : ConsumerIdx) : (s.modLink l f).holds x = s.holds x := rfl
@[simp] theorem State.modLink_holding (x : ClassIdx) : (s.modLink l f).holding x = s.holding x := rfl
@[simp] theorem State.modLink_purgeDraining (x : ClassIdx) : (s.modLink l f).purgeDraining x = s.purgeDraining x := rfl

theorem State.modLink_link (m : LinkId) : (s.modLink l f).link m = if m = l then f (s.link m) else s.link m :=
    (Tab.nth_upd s.links (linkIndex l) (linkIndex m) f).trans (by simp only [linkIndex_inj]; rfl)
@[simp] theorem State.modLink_link_same : (s.modLink l f).link l = f (s.link l) := by
  simp [State.modLink_link]
@[simp] theorem State.modLink_link_ne {m : LinkId} (h : m ≠ l) : (s.modLink l f).link m = s.link m := by
  simp [State.modLink_link, h]

end

/-! ## modRec -/

section

variable (s : State) (r : RecIdx) (f : EventRecord → EventRecord)

@[simp] theorem State.modRec_timebase : (s.modRec r f).timebase = s.timebase := rfl
@[simp] theorem State.modRec_resetAsserted : (s.modRec r f).resetAsserted = s.resetAsserted := rfl
@[simp] theorem State.modRec_links : (s.modRec r f).links = s.links := rfl
@[simp] theorem State.modRec_malformedTotal : (s.modRec r f).malformedTotal = s.malformedTotal := rfl
@[simp] theorem State.modRec_bankA : (s.modRec r f).bankA = s.bankA := rfl
@[simp] theorem State.modRec_bankB : (s.modRec r f).bankB = s.bankB := rfl
@[simp] theorem State.modRec_activeBank : (s.modRec r f).activeBank = s.activeBank := rfl
@[simp] theorem State.modRec_unmatched : (s.modRec r f).unmatched = s.unmatched := rfl
@[simp] theorem State.modRec_lastUnmatched : (s.modRec r f).lastUnmatched = s.lastUnmatched := rfl
@[simp] theorem State.modRec_hold : (s.modRec r f).hold = s.hold := rfl
@[simp] theorem State.modRec_handed : (s.modRec r f).handed = s.handed := rfl
@[simp] theorem State.modRec_levels : (s.modRec r f).levels = s.levels := rfl
@[simp] theorem State.modRec_freeList : (s.modRec r f).freeList = s.freeList := rfl
@[simp] theorem State.modRec_queues : (s.modRec r f).queues = s.queues := rfl
@[simp] theorem State.modRec_classes : (s.modRec r f).classes = s.classes := rfl
@[simp] theorem State.modRec_ports : (s.modRec r f).ports = s.ports := rfl
@[simp] theorem State.modRec_grantOrder : (s.modRec r f).grantOrder = s.grantOrder := rfl
@[simp] theorem State.modRec_pointers : (s.modRec r f).pointers = s.pointers := rfl
@[simp] theorem State.modRec_log : (s.modRec r f).log = s.log := rfl
@[simp] theorem State.modRec_overwrites : (s.modRec r f).overwrites = s.overwrites := rfl
@[simp] theorem State.modRec_nextEntry : (s.modRec r f).nextEntry = s.nextEntry := rfl
@[simp] theorem State.modRec_notices : (s.modRec r f).notices = s.notices := rfl
@[simp] theorem State.modRec_lease : (s.modRec r f).lease = s.lease := rfl
@[simp] theorem State.modRec_frozen : (s.modRec r f).frozen = s.frozen := rfl
@[simp] theorem State.modRec_device : (s.modRec r f).device = s.device := rfl
@[simp] theorem State.modRec_restart : (s.modRec r f).restart = s.restart := rfl
@[simp] theorem State.modRec_restartCount : (s.modRec r f).restartCount = s.restartCount := rfl
@[simp] theorem State.modRec_late : (s.modRec r f).late = s.late := rfl
@[simp] theorem State.modRec_turns : (s.modRec r f).turns = s.turns := rfl
@[simp] theorem State.modRec_freeDraws : (s.modRec r f).freeDraws = s.freeDraws := rfl
@[simp] theorem State.modRec_pending : (s.modRec r f).pending = s.pending := rfl
theorem State.modRec_records : (s.modRec r f).records = Tab.upd s.records (r) f := rfl
@[simp] theorem State.modRec_link (m : LinkId) : (s.modRec r f).link m = s.link m := rfl
@[simp] theorem State.modRec_cls (j : ClassIdx) : (s.modRec r f).cls j = s.cls j := rfl
@[simp] theorem State.modRec_queue (j : ClassIdx) : (s.modRec r f).queue j = s.queue j := rfl
@[simp] theorem State.modRec_port (d : ConsumerIdx) : (s.modRec r f).port d = s.port d := rfl
@[simp] theorem State.modRec_level (b : Addr) : (s.modRec r f).level b = s.level b := rfl
@[simp] theorem State.modRec_freeCount : (s.modRec r f).freeCount = s.freeCount := rfl
@[simp] theorem State.modRec_holds (x : ConsumerIdx) : (s.modRec r f).holds x = s.holds x := rfl
@[simp] theorem State.modRec_holding (x : ClassIdx) : (s.modRec r f).holding x = s.holding x := rfl
@[simp] theorem State.modRec_purgeDraining (x : ClassIdx) : (s.modRec r f).purgeDraining x = s.purgeDraining x := rfl

theorem State.modRec_rcd (q : RecIdx) : (s.modRec r f).rcd q = if q = r then f (s.rcd q) else s.rcd q :=
    (Tab.nth_upd s.records (r) (q) f).trans rfl
@[simp] theorem State.modRec_rcd_same : (s.modRec r f).rcd r = f (s.rcd r) := by
  simp [State.modRec_rcd]
@[simp] theorem State.modRec_rcd_ne {q : RecIdx} (h : q ≠ r) : (s.modRec r f).rcd q = s.rcd q := by
  simp [State.modRec_rcd, h]

end

/-! ## modClass -/

section

variable (s : State) (k : ClassIdx) (f : ClassRecord → ClassRecord)

@[simp] theorem State.modClass_timebase : (s.modClass k f).timebase = s.timebase := rfl
@[simp] theorem State.modClass_resetAsserted : (s.modClass k f).resetAsserted = s.resetAsserted := rfl
@[simp] theorem State.modClass_links : (s.modClass k f).links = s.links := rfl
@[simp] theorem State.modClass_malformedTotal : (s.modClass k f).malformedTotal = s.malformedTotal := rfl
@[simp] theorem State.modClass_bankA : (s.modClass k f).bankA = s.bankA := rfl
@[simp] theorem State.modClass_bankB : (s.modClass k f).bankB = s.bankB := rfl
@[simp] theorem State.modClass_activeBank : (s.modClass k f).activeBank = s.activeBank := rfl
@[simp] theorem State.modClass_unmatched : (s.modClass k f).unmatched = s.unmatched := rfl
@[simp] theorem State.modClass_lastUnmatched : (s.modClass k f).lastUnmatched = s.lastUnmatched := rfl
@[simp] theorem State.modClass_hold : (s.modClass k f).hold = s.hold := rfl
@[simp] theorem State.modClass_handed : (s.modClass k f).handed = s.handed := rfl
@[simp] theorem State.modClass_levels : (s.modClass k f).levels = s.levels := rfl
@[simp] theorem State.modClass_records : (s.modClass k f).records = s.records := rfl
@[simp] theorem State.modClass_freeList : (s.modClass k f).freeList = s.freeList := rfl
@[simp] theorem State.modClass_queues : (s.modClass k f).queues = s.queues := rfl
@[simp] theorem State.modClass_ports : (s.modClass k f).ports = s.ports := rfl
@[simp] theorem State.modClass_grantOrder : (s.modClass k f).grantOrder = s.grantOrder := rfl
@[simp] theorem State.modClass_pointers : (s.modClass k f).pointers = s.pointers := rfl
@[simp] theorem State.modClass_log : (s.modClass k f).log = s.log := rfl
@[simp] theorem State.modClass_overwrites : (s.modClass k f).overwrites = s.overwrites := rfl
@[simp] theorem State.modClass_nextEntry : (s.modClass k f).nextEntry = s.nextEntry := rfl
@[simp] theorem State.modClass_notices : (s.modClass k f).notices = s.notices := rfl
@[simp] theorem State.modClass_lease : (s.modClass k f).lease = s.lease := rfl
@[simp] theorem State.modClass_frozen : (s.modClass k f).frozen = s.frozen := rfl
@[simp] theorem State.modClass_device : (s.modClass k f).device = s.device := rfl
@[simp] theorem State.modClass_restart : (s.modClass k f).restart = s.restart := rfl
@[simp] theorem State.modClass_restartCount : (s.modClass k f).restartCount = s.restartCount := rfl
@[simp] theorem State.modClass_late : (s.modClass k f).late = s.late := rfl
@[simp] theorem State.modClass_turns : (s.modClass k f).turns = s.turns := rfl
@[simp] theorem State.modClass_freeDraws : (s.modClass k f).freeDraws = s.freeDraws := rfl
@[simp] theorem State.modClass_pending : (s.modClass k f).pending = s.pending := rfl
theorem State.modClass_classes : (s.modClass k f).classes = Tab.upd s.classes (k) f := rfl
@[simp] theorem State.modClass_link (m : LinkId) : (s.modClass k f).link m = s.link m := rfl
@[simp] theorem State.modClass_rcd (q : RecIdx) : (s.modClass k f).rcd q = s.rcd q := rfl
@[simp] theorem State.modClass_queue (j : ClassIdx) : (s.modClass k f).queue j = s.queue j := rfl
@[simp] theorem State.modClass_port (d : ConsumerIdx) : (s.modClass k f).port d = s.port d := rfl
@[simp] theorem State.modClass_level (b : Addr) : (s.modClass k f).level b = s.level b := rfl
@[simp] theorem State.modClass_freeCount : (s.modClass k f).freeCount = s.freeCount := rfl
@[simp] theorem State.modClass_holds (x : ConsumerIdx) : (s.modClass k f).holds x = s.holds x := rfl

theorem State.modClass_cls (j : ClassIdx) : (s.modClass k f).cls j = if j = k then f (s.cls j) else s.cls j :=
    (Tab.nth_upd s.classes (k) (j) f).trans rfl
@[simp] theorem State.modClass_cls_same : (s.modClass k f).cls k = f (s.cls k) := by
  simp [State.modClass_cls]
@[simp] theorem State.modClass_cls_ne {j : ClassIdx} (h : j ≠ k) : (s.modClass k f).cls j = s.cls j := by
  simp [State.modClass_cls, h]

end

/-! ## modQueue -/

section

variable (s : State) (k : ClassIdx) (f : List RecIdx → List RecIdx)

@[simp] theorem State.modQueue_timebase : (s.modQueue k f).timebase = s.timebase := rfl
@[simp] theorem State.modQueue_resetAsserted : (s.modQueue k f).resetAsserted = s.resetAsserted := rfl
@[simp] theorem State.modQueue_links : (s.modQueue k f).links = s.links := rfl
@[simp] theorem State.modQueue_malformedTotal : (s.modQueue k f).malformedTotal = s.malformedTotal := rfl
@[simp] theorem State.modQueue_bankA : (s.modQueue k f).bankA = s.bankA := rfl
@[simp] theorem State.modQueue_bankB : (s.modQueue k f).bankB = s.bankB := rfl
@[simp] theorem State.modQueue_activeBank : (s.modQueue k f).activeBank = s.activeBank := rfl
@[simp] theorem State.modQueue_unmatched : (s.modQueue k f).unmatched = s.unmatched := rfl
@[simp] theorem State.modQueue_lastUnmatched : (s.modQueue k f).lastUnmatched = s.lastUnmatched := rfl
@[simp] theorem State.modQueue_hold : (s.modQueue k f).hold = s.hold := rfl
@[simp] theorem State.modQueue_handed : (s.modQueue k f).handed = s.handed := rfl
@[simp] theorem State.modQueue_levels : (s.modQueue k f).levels = s.levels := rfl
@[simp] theorem State.modQueue_records : (s.modQueue k f).records = s.records := rfl
@[simp] theorem State.modQueue_freeList : (s.modQueue k f).freeList = s.freeList := rfl
@[simp] theorem State.modQueue_classes : (s.modQueue k f).classes = s.classes := rfl
@[simp] theorem State.modQueue_ports : (s.modQueue k f).ports = s.ports := rfl
@[simp] theorem State.modQueue_grantOrder : (s.modQueue k f).grantOrder = s.grantOrder := rfl
@[simp] theorem State.modQueue_pointers : (s.modQueue k f).pointers = s.pointers := rfl
@[simp] theorem State.modQueue_log : (s.modQueue k f).log = s.log := rfl
@[simp] theorem State.modQueue_overwrites : (s.modQueue k f).overwrites = s.overwrites := rfl
@[simp] theorem State.modQueue_nextEntry : (s.modQueue k f).nextEntry = s.nextEntry := rfl
@[simp] theorem State.modQueue_notices : (s.modQueue k f).notices = s.notices := rfl
@[simp] theorem State.modQueue_lease : (s.modQueue k f).lease = s.lease := rfl
@[simp] theorem State.modQueue_frozen : (s.modQueue k f).frozen = s.frozen := rfl
@[simp] theorem State.modQueue_device : (s.modQueue k f).device = s.device := rfl
@[simp] theorem State.modQueue_restart : (s.modQueue k f).restart = s.restart := rfl
@[simp] theorem State.modQueue_restartCount : (s.modQueue k f).restartCount = s.restartCount := rfl
@[simp] theorem State.modQueue_late : (s.modQueue k f).late = s.late := rfl
@[simp] theorem State.modQueue_turns : (s.modQueue k f).turns = s.turns := rfl
@[simp] theorem State.modQueue_freeDraws : (s.modQueue k f).freeDraws = s.freeDraws := rfl
@[simp] theorem State.modQueue_pending : (s.modQueue k f).pending = s.pending := rfl
theorem State.modQueue_queues : (s.modQueue k f).queues = Tab.upd s.queues (k) f := rfl
@[simp] theorem State.modQueue_link (m : LinkId) : (s.modQueue k f).link m = s.link m := rfl
@[simp] theorem State.modQueue_rcd (q : RecIdx) : (s.modQueue k f).rcd q = s.rcd q := rfl
@[simp] theorem State.modQueue_cls (j : ClassIdx) : (s.modQueue k f).cls j = s.cls j := rfl
@[simp] theorem State.modQueue_port (d : ConsumerIdx) : (s.modQueue k f).port d = s.port d := rfl
@[simp] theorem State.modQueue_level (b : Addr) : (s.modQueue k f).level b = s.level b := rfl
@[simp] theorem State.modQueue_freeCount : (s.modQueue k f).freeCount = s.freeCount := rfl
@[simp] theorem State.modQueue_holds (x : ConsumerIdx) : (s.modQueue k f).holds x = s.holds x := rfl
@[simp] theorem State.modQueue_holding (x : ClassIdx) : (s.modQueue k f).holding x = s.holding x := rfl
@[simp] theorem State.modQueue_purgeDraining (x : ClassIdx) : (s.modQueue k f).purgeDraining x = s.purgeDraining x := rfl

theorem State.modQueue_queue (j : ClassIdx) : (s.modQueue k f).queue j = if j = k then f (s.queue j) else s.queue j :=
    (Tab.nth_upd s.queues (k) (j) f).trans rfl
@[simp] theorem State.modQueue_queue_same : (s.modQueue k f).queue k = f (s.queue k) := by
  simp [State.modQueue_queue]
@[simp] theorem State.modQueue_queue_ne {j : ClassIdx} (h : j ≠ k) : (s.modQueue k f).queue j = s.queue j := by
  simp [State.modQueue_queue, h]

end

/-! ## modPort -/

section

variable (s : State) (c : ConsumerIdx) (f : Port → Port)

@[simp] theorem State.modPort_timebase : (s.modPort c f).timebase = s.timebase := rfl
@[simp] theorem State.modPort_resetAsserted : (s.modPort c f).resetAsserted = s.resetAsserted := rfl
@[simp] theorem State.modPort_links : (s.modPort c f).links = s.links := rfl
@[simp] theorem State.modPort_malformedTotal : (s.modPort c f).malformedTotal = s.malformedTotal := rfl
@[simp] theorem State.modPort_bankA : (s.modPort c f).bankA = s.bankA := rfl
@[simp] theorem State.modPort_bankB : (s.modPort c f).bankB = s.bankB := rfl
@[simp] theorem State.modPort_activeBank : (s.modPort c f).activeBank = s.activeBank := rfl
@[simp] theorem State.modPort_unmatched : (s.modPort c f).unmatched = s.unmatched := rfl
@[simp] theorem State.modPort_lastUnmatched : (s.modPort c f).lastUnmatched = s.lastUnmatched := rfl
@[simp] theorem State.modPort_hold : (s.modPort c f).hold = s.hold := rfl
@[simp] theorem State.modPort_handed : (s.modPort c f).handed = s.handed := rfl
@[simp] theorem State.modPort_levels : (s.modPort c f).levels = s.levels := rfl
@[simp] theorem State.modPort_records : (s.modPort c f).records = s.records := rfl
@[simp] theorem State.modPort_freeList : (s.modPort c f).freeList = s.freeList := rfl
@[simp] theorem State.modPort_queues : (s.modPort c f).queues = s.queues := rfl
@[simp] theorem State.modPort_classes : (s.modPort c f).classes = s.classes := rfl
@[simp] theorem State.modPort_grantOrder : (s.modPort c f).grantOrder = s.grantOrder := rfl
@[simp] theorem State.modPort_pointers : (s.modPort c f).pointers = s.pointers := rfl
@[simp] theorem State.modPort_log : (s.modPort c f).log = s.log := rfl
@[simp] theorem State.modPort_overwrites : (s.modPort c f).overwrites = s.overwrites := rfl
@[simp] theorem State.modPort_nextEntry : (s.modPort c f).nextEntry = s.nextEntry := rfl
@[simp] theorem State.modPort_notices : (s.modPort c f).notices = s.notices := rfl
@[simp] theorem State.modPort_lease : (s.modPort c f).lease = s.lease := rfl
@[simp] theorem State.modPort_frozen : (s.modPort c f).frozen = s.frozen := rfl
@[simp] theorem State.modPort_device : (s.modPort c f).device = s.device := rfl
@[simp] theorem State.modPort_restart : (s.modPort c f).restart = s.restart := rfl
@[simp] theorem State.modPort_restartCount : (s.modPort c f).restartCount = s.restartCount := rfl
@[simp] theorem State.modPort_late : (s.modPort c f).late = s.late := rfl
@[simp] theorem State.modPort_turns : (s.modPort c f).turns = s.turns := rfl
@[simp] theorem State.modPort_freeDraws : (s.modPort c f).freeDraws = s.freeDraws := rfl
@[simp] theorem State.modPort_pending : (s.modPort c f).pending = s.pending := rfl
theorem State.modPort_ports : (s.modPort c f).ports = Tab.upd s.ports (c) f := rfl
@[simp] theorem State.modPort_link (m : LinkId) : (s.modPort c f).link m = s.link m := rfl
@[simp] theorem State.modPort_rcd (q : RecIdx) : (s.modPort c f).rcd q = s.rcd q := rfl
@[simp] theorem State.modPort_cls (j : ClassIdx) : (s.modPort c f).cls j = s.cls j := rfl
@[simp] theorem State.modPort_queue (j : ClassIdx) : (s.modPort c f).queue j = s.queue j := rfl
@[simp] theorem State.modPort_level (b : Addr) : (s.modPort c f).level b = s.level b := rfl
@[simp] theorem State.modPort_freeCount : (s.modPort c f).freeCount = s.freeCount := rfl
@[simp] theorem State.modPort_holds (x : ConsumerIdx) : (s.modPort c f).holds x = s.holds x := rfl
@[simp] theorem State.modPort_holding (x : ClassIdx) : (s.modPort c f).holding x = s.holding x := rfl
@[simp] theorem State.modPort_purgeDraining (x : ClassIdx) : (s.modPort c f).purgeDraining x = s.purgeDraining x := rfl

theorem State.modPort_port (d : ConsumerIdx) : (s.modPort c f).port d = if d = c then f (s.port d) else s.port d :=
    (Tab.nth_upd s.ports (c) (d) f).trans rfl
@[simp] theorem State.modPort_port_same : (s.modPort c f).port c = f (s.port c) := by
  simp [State.modPort_port]
@[simp] theorem State.modPort_port_ne {d : ConsumerIdx} (h : d ≠ c) : (s.modPort c f).port d = s.port d := by
  simp [State.modPort_port, h]

end

/-! ## modLevel -/

section

variable (s : State) (a : Addr) (f : LevelEntry → LevelEntry)

@[simp] theorem State.modLevel_timebase : (s.modLevel a f).timebase = s.timebase := rfl
@[simp] theorem State.modLevel_resetAsserted : (s.modLevel a f).resetAsserted = s.resetAsserted := rfl
@[simp] theorem State.modLevel_links : (s.modLevel a f).links = s.links := rfl
@[simp] theorem State.modLevel_malformedTotal : (s.modLevel a f).malformedTotal = s.malformedTotal := rfl
@[simp] theorem State.modLevel_bankA : (s.modLevel a f).bankA = s.bankA := rfl
@[simp] theorem State.modLevel_bankB : (s.modLevel a f).bankB = s.bankB := rfl
@[simp] theorem State.modLevel_activeBank : (s.modLevel a f).activeBank = s.activeBank := rfl
@[simp] theorem State.modLevel_unmatched : (s.modLevel a f).unmatched = s.unmatched := rfl
@[simp] theorem State.modLevel_lastUnmatched : (s.modLevel a f).lastUnmatched = s.lastUnmatched := rfl
@[simp] theorem State.modLevel_hold : (s.modLevel a f).hold = s.hold := rfl
@[simp] theorem State.modLevel_handed : (s.modLevel a f).handed = s.handed := rfl
@[simp] theorem State.modLevel_records : (s.modLevel a f).records = s.records := rfl
@[simp] theorem State.modLevel_freeList : (s.modLevel a f).freeList = s.freeList := rfl
@[simp] theorem State.modLevel_queues : (s.modLevel a f).queues = s.queues := rfl
@[simp] theorem State.modLevel_classes : (s.modLevel a f).classes = s.classes := rfl
@[simp] theorem State.modLevel_ports : (s.modLevel a f).ports = s.ports := rfl
@[simp] theorem State.modLevel_grantOrder : (s.modLevel a f).grantOrder = s.grantOrder := rfl
@[simp] theorem State.modLevel_pointers : (s.modLevel a f).pointers = s.pointers := rfl
@[simp] theorem State.modLevel_log : (s.modLevel a f).log = s.log := rfl
@[simp] theorem State.modLevel_overwrites : (s.modLevel a f).overwrites = s.overwrites := rfl
@[simp] theorem State.modLevel_nextEntry : (s.modLevel a f).nextEntry = s.nextEntry := rfl
@[simp] theorem State.modLevel_notices : (s.modLevel a f).notices = s.notices := rfl
@[simp] theorem State.modLevel_lease : (s.modLevel a f).lease = s.lease := rfl
@[simp] theorem State.modLevel_frozen : (s.modLevel a f).frozen = s.frozen := rfl
@[simp] theorem State.modLevel_device : (s.modLevel a f).device = s.device := rfl
@[simp] theorem State.modLevel_restart : (s.modLevel a f).restart = s.restart := rfl
@[simp] theorem State.modLevel_restartCount : (s.modLevel a f).restartCount = s.restartCount := rfl
@[simp] theorem State.modLevel_late : (s.modLevel a f).late = s.late := rfl
@[simp] theorem State.modLevel_turns : (s.modLevel a f).turns = s.turns := rfl
@[simp] theorem State.modLevel_freeDraws : (s.modLevel a f).freeDraws = s.freeDraws := rfl
@[simp] theorem State.modLevel_pending : (s.modLevel a f).pending = s.pending := rfl
theorem State.modLevel_levels : (s.modLevel a f).levels = Tab.upd s.levels (levelIndex a) f := rfl
@[simp] theorem State.modLevel_link (m : LinkId) : (s.modLevel a f).link m = s.link m := rfl
@[simp] theorem State.modLevel_rcd (q : RecIdx) : (s.modLevel a f).rcd q = s.rcd q := rfl
@[simp] theorem State.modLevel_cls (j : ClassIdx) : (s.modLevel a f).cls j = s.cls j := rfl
@[simp] theorem State.modLevel_queue (j : ClassIdx) : (s.modLevel a f).queue j = s.queue j := rfl
@[simp] theorem State.modLevel_port (d : ConsumerIdx) : (s.modLevel a f).port d = s.port d := rfl
@[simp] theorem State.modLevel_freeCount : (s.modLevel a f).freeCount = s.freeCount := rfl
@[simp] theorem State.modLevel_holds (x : ConsumerIdx) : (s.modLevel a f).holds x = s.holds x := rfl
@[simp] theorem State.modLevel_holding (x : ClassIdx) : (s.modLevel a f).holding x = s.holding x := rfl
@[simp] theorem State.modLevel_purgeDraining (x : ClassIdx) : (s.modLevel a f).purgeDraining x = s.purgeDraining x := rfl

theorem State.modLevel_level (b : Addr) : (s.modLevel a f).level b = if b = a then f (s.level b) else s.level b :=
    (Tab.nth_upd s.levels (levelIndex a) (levelIndex b) f).trans (by simp only [levelIndex_inj]; rfl)
@[simp] theorem State.modLevel_level_same : (s.modLevel a f).level a = f (s.level a) := by
  simp [State.modLevel_level]
@[simp] theorem State.modLevel_level_ne {b : Addr} (h : b ≠ a) : (s.modLevel a f).level b = s.level b := by
  simp [State.modLevel_level, h]

end

/-! ## raiseAbandon -/

section

variable (s : State)

@[simp] theorem raiseAbandon_timebase : (raiseAbandon s).timebase = s.timebase := rfl
@[simp] theorem raiseAbandon_resetAsserted : (raiseAbandon s).resetAsserted = s.resetAsserted := rfl
@[simp] theorem raiseAbandon_links : (raiseAbandon s).links = s.links := rfl
@[simp] theorem raiseAbandon_malformedTotal : (raiseAbandon s).malformedTotal = s.malformedTotal := rfl
@[simp] theorem raiseAbandon_bankA : (raiseAbandon s).bankA = s.bankA := rfl
@[simp] theorem raiseAbandon_bankB : (raiseAbandon s).bankB = s.bankB := rfl
@[simp] theorem raiseAbandon_activeBank : (raiseAbandon s).activeBank = s.activeBank := rfl
@[simp] theorem raiseAbandon_unmatched : (raiseAbandon s).unmatched = s.unmatched := rfl
@[simp] theorem raiseAbandon_lastUnmatched : (raiseAbandon s).lastUnmatched = s.lastUnmatched := rfl
@[simp] theorem raiseAbandon_hold : (raiseAbandon s).hold = s.hold := rfl
@[simp] theorem raiseAbandon_handed : (raiseAbandon s).handed = s.handed := rfl
@[simp] theorem raiseAbandon_levels : (raiseAbandon s).levels = s.levels := rfl
@[simp] theorem raiseAbandon_records : (raiseAbandon s).records = s.records := rfl
@[simp] theorem raiseAbandon_freeList : (raiseAbandon s).freeList = s.freeList := rfl
@[simp] theorem raiseAbandon_queues : (raiseAbandon s).queues = s.queues := rfl
@[simp] theorem raiseAbandon_classes : (raiseAbandon s).classes = s.classes := rfl
@[simp] theorem raiseAbandon_ports : (raiseAbandon s).ports = s.ports := rfl
@[simp] theorem raiseAbandon_grantOrder : (raiseAbandon s).grantOrder = s.grantOrder := rfl
@[simp] theorem raiseAbandon_pointers : (raiseAbandon s).pointers = s.pointers := rfl
@[simp] theorem raiseAbandon_log : (raiseAbandon s).log = s.log := rfl
@[simp] theorem raiseAbandon_overwrites : (raiseAbandon s).overwrites = s.overwrites := rfl
@[simp] theorem raiseAbandon_nextEntry : (raiseAbandon s).nextEntry = s.nextEntry := rfl
@[simp] theorem raiseAbandon_lease : (raiseAbandon s).lease = s.lease := rfl
@[simp] theorem raiseAbandon_frozen : (raiseAbandon s).frozen = s.frozen := rfl
@[simp] theorem raiseAbandon_device : (raiseAbandon s).device = s.device := rfl
@[simp] theorem raiseAbandon_restart : (raiseAbandon s).restart = s.restart := rfl
@[simp] theorem raiseAbandon_restartCount : (raiseAbandon s).restartCount = s.restartCount := rfl
@[simp] theorem raiseAbandon_late : (raiseAbandon s).late = s.late := rfl
@[simp] theorem raiseAbandon_turns : (raiseAbandon s).turns = s.turns := rfl
@[simp] theorem raiseAbandon_freeDraws : (raiseAbandon s).freeDraws = s.freeDraws := rfl
@[simp] theorem raiseAbandon_pending : (raiseAbandon s).pending = s.pending := rfl
@[simp] theorem raiseAbandon_link (m : LinkId) : (raiseAbandon s).link m = s.link m := rfl
@[simp] theorem raiseAbandon_rcd (q : RecIdx) : (raiseAbandon s).rcd q = s.rcd q := rfl
@[simp] theorem raiseAbandon_cls (j : ClassIdx) : (raiseAbandon s).cls j = s.cls j := rfl
@[simp] theorem raiseAbandon_queue (j : ClassIdx) : (raiseAbandon s).queue j = s.queue j := rfl
@[simp] theorem raiseAbandon_port (d : ConsumerIdx) : (raiseAbandon s).port d = s.port d := rfl
@[simp] theorem raiseAbandon_level (b : Addr) : (raiseAbandon s).level b = s.level b := rfl
@[simp] theorem raiseAbandon_holding (x : ClassIdx) : (raiseAbandon s).holding x = s.holding x := rfl
@[simp] theorem raiseAbandon_freeCount : (raiseAbandon s).freeCount = s.freeCount := rfl

end

/-! ## raiseSuspect -/

section

variable (s : State) (c : ConsumerIdx)

@[simp] theorem raiseSuspect_timebase : (raiseSuspect c s).timebase = s.timebase := rfl
@[simp] theorem raiseSuspect_resetAsserted : (raiseSuspect c s).resetAsserted = s.resetAsserted := rfl
@[simp] theorem raiseSuspect_links : (raiseSuspect c s).links = s.links := rfl
@[simp] theorem raiseSuspect_malformedTotal : (raiseSuspect c s).malformedTotal = s.malformedTotal := rfl
@[simp] theorem raiseSuspect_bankA : (raiseSuspect c s).bankA = s.bankA := rfl
@[simp] theorem raiseSuspect_bankB : (raiseSuspect c s).bankB = s.bankB := rfl
@[simp] theorem raiseSuspect_activeBank : (raiseSuspect c s).activeBank = s.activeBank := rfl
@[simp] theorem raiseSuspect_unmatched : (raiseSuspect c s).unmatched = s.unmatched := rfl
@[simp] theorem raiseSuspect_lastUnmatched : (raiseSuspect c s).lastUnmatched = s.lastUnmatched := rfl
@[simp] theorem raiseSuspect_hold : (raiseSuspect c s).hold = s.hold := rfl
@[simp] theorem raiseSuspect_handed : (raiseSuspect c s).handed = s.handed := rfl
@[simp] theorem raiseSuspect_levels : (raiseSuspect c s).levels = s.levels := rfl
@[simp] theorem raiseSuspect_records : (raiseSuspect c s).records = s.records := rfl
@[simp] theorem raiseSuspect_freeList : (raiseSuspect c s).freeList = s.freeList := rfl
@[simp] theorem raiseSuspect_queues : (raiseSuspect c s).queues = s.queues := rfl
@[simp] theorem raiseSuspect_classes : (raiseSuspect c s).classes = s.classes := rfl
@[simp] theorem raiseSuspect_ports : (raiseSuspect c s).ports = s.ports := rfl
@[simp] theorem raiseSuspect_grantOrder : (raiseSuspect c s).grantOrder = s.grantOrder := rfl
@[simp] theorem raiseSuspect_pointers : (raiseSuspect c s).pointers = s.pointers := rfl
@[simp] theorem raiseSuspect_log : (raiseSuspect c s).log = s.log := rfl
@[simp] theorem raiseSuspect_overwrites : (raiseSuspect c s).overwrites = s.overwrites := rfl
@[simp] theorem raiseSuspect_nextEntry : (raiseSuspect c s).nextEntry = s.nextEntry := rfl
@[simp] theorem raiseSuspect_lease : (raiseSuspect c s).lease = s.lease := rfl
@[simp] theorem raiseSuspect_frozen : (raiseSuspect c s).frozen = s.frozen := rfl
@[simp] theorem raiseSuspect_device : (raiseSuspect c s).device = s.device := rfl
@[simp] theorem raiseSuspect_restart : (raiseSuspect c s).restart = s.restart := rfl
@[simp] theorem raiseSuspect_restartCount : (raiseSuspect c s).restartCount = s.restartCount := rfl
@[simp] theorem raiseSuspect_late : (raiseSuspect c s).late = s.late := rfl
@[simp] theorem raiseSuspect_turns : (raiseSuspect c s).turns = s.turns := rfl
@[simp] theorem raiseSuspect_freeDraws : (raiseSuspect c s).freeDraws = s.freeDraws := rfl
@[simp] theorem raiseSuspect_pending : (raiseSuspect c s).pending = s.pending := rfl
@[simp] theorem raiseSuspect_link (m : LinkId) : (raiseSuspect c s).link m = s.link m := rfl
@[simp] theorem raiseSuspect_rcd (q : RecIdx) : (raiseSuspect c s).rcd q = s.rcd q := rfl
@[simp] theorem raiseSuspect_cls (j : ClassIdx) : (raiseSuspect c s).cls j = s.cls j := rfl
@[simp] theorem raiseSuspect_queue (j : ClassIdx) : (raiseSuspect c s).queue j = s.queue j := rfl
@[simp] theorem raiseSuspect_port (d : ConsumerIdx) : (raiseSuspect c s).port d = s.port d := rfl
@[simp] theorem raiseSuspect_level (b : Addr) : (raiseSuspect c s).level b = s.level b := rfl
@[simp] theorem raiseSuspect_holding (x : ClassIdx) : (raiseSuspect c s).holding x = s.holding x := rfl
@[simp] theorem raiseSuspect_freeCount : (raiseSuspect c s).freeCount = s.freeCount := rfl

end

/-! ## raiseIdle -/

section

variable (s : State) (k : ClassIdx)

@[simp] theorem raiseIdle_timebase : (raiseIdle k s).timebase = s.timebase := rfl
@[simp] theorem raiseIdle_resetAsserted : (raiseIdle k s).resetAsserted = s.resetAsserted := rfl
@[simp] theorem raiseIdle_links : (raiseIdle k s).links = s.links := rfl
@[simp] theorem raiseIdle_malformedTotal : (raiseIdle k s).malformedTotal = s.malformedTotal := rfl
@[simp] theorem raiseIdle_bankA : (raiseIdle k s).bankA = s.bankA := rfl
@[simp] theorem raiseIdle_bankB : (raiseIdle k s).bankB = s.bankB := rfl
@[simp] theorem raiseIdle_activeBank : (raiseIdle k s).activeBank = s.activeBank := rfl
@[simp] theorem raiseIdle_unmatched : (raiseIdle k s).unmatched = s.unmatched := rfl
@[simp] theorem raiseIdle_lastUnmatched : (raiseIdle k s).lastUnmatched = s.lastUnmatched := rfl
@[simp] theorem raiseIdle_hold : (raiseIdle k s).hold = s.hold := rfl
@[simp] theorem raiseIdle_handed : (raiseIdle k s).handed = s.handed := rfl
@[simp] theorem raiseIdle_levels : (raiseIdle k s).levels = s.levels := rfl
@[simp] theorem raiseIdle_records : (raiseIdle k s).records = s.records := rfl
@[simp] theorem raiseIdle_freeList : (raiseIdle k s).freeList = s.freeList := rfl
@[simp] theorem raiseIdle_queues : (raiseIdle k s).queues = s.queues := rfl
@[simp] theorem raiseIdle_classes : (raiseIdle k s).classes = s.classes := rfl
@[simp] theorem raiseIdle_ports : (raiseIdle k s).ports = s.ports := rfl
@[simp] theorem raiseIdle_grantOrder : (raiseIdle k s).grantOrder = s.grantOrder := rfl
@[simp] theorem raiseIdle_pointers : (raiseIdle k s).pointers = s.pointers := rfl
@[simp] theorem raiseIdle_log : (raiseIdle k s).log = s.log := rfl
@[simp] theorem raiseIdle_overwrites : (raiseIdle k s).overwrites = s.overwrites := rfl
@[simp] theorem raiseIdle_nextEntry : (raiseIdle k s).nextEntry = s.nextEntry := rfl
@[simp] theorem raiseIdle_lease : (raiseIdle k s).lease = s.lease := rfl
@[simp] theorem raiseIdle_frozen : (raiseIdle k s).frozen = s.frozen := rfl
@[simp] theorem raiseIdle_device : (raiseIdle k s).device = s.device := rfl
@[simp] theorem raiseIdle_restart : (raiseIdle k s).restart = s.restart := rfl
@[simp] theorem raiseIdle_restartCount : (raiseIdle k s).restartCount = s.restartCount := rfl
@[simp] theorem raiseIdle_late : (raiseIdle k s).late = s.late := rfl
@[simp] theorem raiseIdle_turns : (raiseIdle k s).turns = s.turns := rfl
@[simp] theorem raiseIdle_freeDraws : (raiseIdle k s).freeDraws = s.freeDraws := rfl
@[simp] theorem raiseIdle_pending : (raiseIdle k s).pending = s.pending := rfl
@[simp] theorem raiseIdle_link (m : LinkId) : (raiseIdle k s).link m = s.link m := rfl
@[simp] theorem raiseIdle_rcd (q : RecIdx) : (raiseIdle k s).rcd q = s.rcd q := rfl
@[simp] theorem raiseIdle_cls (j : ClassIdx) : (raiseIdle k s).cls j = s.cls j := rfl
@[simp] theorem raiseIdle_queue (j : ClassIdx) : (raiseIdle k s).queue j = s.queue j := rfl
@[simp] theorem raiseIdle_port (d : ConsumerIdx) : (raiseIdle k s).port d = s.port d := rfl
@[simp] theorem raiseIdle_level (b : Addr) : (raiseIdle k s).level b = s.level b := rfl
@[simp] theorem raiseIdle_holding (x : ClassIdx) : (raiseIdle k s).holding x = s.holding x := rfl
@[simp] theorem raiseIdle_freeCount : (raiseIdle k s).freeCount = s.freeCount := rfl

end

/-! ## raiseHold -/

section

variable (s : State)

@[simp] theorem raiseHold_timebase : (raiseHold s).timebase = s.timebase := rfl
@[simp] theorem raiseHold_resetAsserted : (raiseHold s).resetAsserted = s.resetAsserted := rfl
@[simp] theorem raiseHold_links : (raiseHold s).links = s.links := rfl
@[simp] theorem raiseHold_malformedTotal : (raiseHold s).malformedTotal = s.malformedTotal := rfl
@[simp] theorem raiseHold_bankA : (raiseHold s).bankA = s.bankA := rfl
@[simp] theorem raiseHold_bankB : (raiseHold s).bankB = s.bankB := rfl
@[simp] theorem raiseHold_activeBank : (raiseHold s).activeBank = s.activeBank := rfl
@[simp] theorem raiseHold_unmatched : (raiseHold s).unmatched = s.unmatched := rfl
@[simp] theorem raiseHold_lastUnmatched : (raiseHold s).lastUnmatched = s.lastUnmatched := rfl
@[simp] theorem raiseHold_hold : (raiseHold s).hold = s.hold := rfl
@[simp] theorem raiseHold_handed : (raiseHold s).handed = s.handed := rfl
@[simp] theorem raiseHold_levels : (raiseHold s).levels = s.levels := rfl
@[simp] theorem raiseHold_records : (raiseHold s).records = s.records := rfl
@[simp] theorem raiseHold_freeList : (raiseHold s).freeList = s.freeList := rfl
@[simp] theorem raiseHold_queues : (raiseHold s).queues = s.queues := rfl
@[simp] theorem raiseHold_classes : (raiseHold s).classes = s.classes := rfl
@[simp] theorem raiseHold_ports : (raiseHold s).ports = s.ports := rfl
@[simp] theorem raiseHold_grantOrder : (raiseHold s).grantOrder = s.grantOrder := rfl
@[simp] theorem raiseHold_pointers : (raiseHold s).pointers = s.pointers := rfl
@[simp] theorem raiseHold_log : (raiseHold s).log = s.log := rfl
@[simp] theorem raiseHold_overwrites : (raiseHold s).overwrites = s.overwrites := rfl
@[simp] theorem raiseHold_nextEntry : (raiseHold s).nextEntry = s.nextEntry := rfl
@[simp] theorem raiseHold_lease : (raiseHold s).lease = s.lease := rfl
@[simp] theorem raiseHold_frozen : (raiseHold s).frozen = s.frozen := rfl
@[simp] theorem raiseHold_device : (raiseHold s).device = s.device := rfl
@[simp] theorem raiseHold_restart : (raiseHold s).restart = s.restart := rfl
@[simp] theorem raiseHold_restartCount : (raiseHold s).restartCount = s.restartCount := rfl
@[simp] theorem raiseHold_late : (raiseHold s).late = s.late := rfl
@[simp] theorem raiseHold_turns : (raiseHold s).turns = s.turns := rfl
@[simp] theorem raiseHold_freeDraws : (raiseHold s).freeDraws = s.freeDraws := rfl
@[simp] theorem raiseHold_pending : (raiseHold s).pending = s.pending := rfl
@[simp] theorem raiseHold_link (m : LinkId) : (raiseHold s).link m = s.link m := rfl
@[simp] theorem raiseHold_rcd (q : RecIdx) : (raiseHold s).rcd q = s.rcd q := rfl
@[simp] theorem raiseHold_cls (j : ClassIdx) : (raiseHold s).cls j = s.cls j := rfl
@[simp] theorem raiseHold_queue (j : ClassIdx) : (raiseHold s).queue j = s.queue j := rfl
@[simp] theorem raiseHold_port (d : ConsumerIdx) : (raiseHold s).port d = s.port d := rfl
@[simp] theorem raiseHold_level (b : Addr) : (raiseHold s).level b = s.level b := rfl
@[simp] theorem raiseHold_holding (x : ClassIdx) : (raiseHold s).holding x = s.holding x := rfl
@[simp] theorem raiseHold_freeCount : (raiseHold s).freeCount = s.freeCount := rfl

end

end Sys2Proof.Machine
end

