-- ==== Sys2Proof/Laws/Ops.lean ====
section
/-! SUPPORT. What each shared operation can change: one frame lemma for each, in the form "the state after is the state
before with these fields replaced", and the outcomes of the operations with a choice. -/

namespace Sys2Proof.Machine

/-! ## Notices, hold, drain, lease -/

/-- The Notice Unit's test changes the ports and the notice set alone. -/
theorem placeNotice_frame (s : State) :
    placeNotice s = { s with ports := (placeNotice s).ports, notices := (placeNotice s).notices } := by
  unfold placeNotice
  split
  · rfl
  · split
    · rfl
    · split <;> rfl

/-- A NOTICE is due: the set is not empty, a consumer holds the lease, and its notice slot is empty (R142). -/
theorem placeNotice_due (s : State) (x : Lease) (hn : s.notices ≠ NoticeSet.none) (hl : s.lease = some x)
    (hs : (s.port x.holder).noticeSlot = none) :
    placeNotice s =
      { s.modPort x.holder (fun p => { p with noticeSlot := some (noticeOf s) }) with notices := NoticeSet.none } := by
  simp [placeNotice, hn, hl, hs]

/-- No NOTICE is due with an empty set. -/
theorem placeNotice_empty (s : State) (h : s.notices = NoticeSet.none) : placeNotice s = s := by
  simp [placeNotice, h]

/-- No NOTICE is due without a holder. -/
theorem placeNotice_free (s : State) (h : s.lease = none) : placeNotice s = s := by
  simp [placeNotice, h]

/-- No NOTICE is due with the holder's slot occupied. -/
theorem placeNotice_occupied (s : State) (x : Lease) (n : Notice) (hl : s.lease = some x)
    (hs : (s.port x.holder).noticeSlot = some n) : placeNotice s = s := by
  simp [placeNotice, hl, hs]

/-- The Notice Unit's test touches a port at its notice slot alone. -/
theorem placeNotice_port (s : State) (c : ConsumerIdx) :
    (placeNotice s).port c = { s.port c with noticeSlot := ((placeNotice s).port c).noticeSlot } := by
  unfold placeNotice
  split
  · rfl
  · split
    · rfl
    · rename_i x _
      split
      · rfl
      · by_cases h : c = x.holder
        · subst h
          simp
        · simp [h]

/-- The hold rule changes the hold state and the notice set alone. -/
theorem applyHold_frame (s : State) :
    applyHold s = { s with hold := (applyHold s).hold, notices := (applyHold s).notices } := by
  unfold applyHold
  split <;> split <;> rfl

/-- The drain rule changes the classes and the notice set alone. -/
theorem drainCheck_frame (k : ClassIdx) (s : State) :
    drainCheck k s = { s with classes := (drainCheck k s).classes, notices := (drainCheck k s).notices } := by
  unfold drainCheck
  split <;> rfl

/-- Renewing changes the lease alone. -/
theorem renewLease_frame (c : ConsumerIdx) (s : State) : renewLease c s = { s with lease := (renewLease c s).lease } := by
  unfold renewLease
  split <;> rfl

/-- Renewing leaves the holder. -/
theorem renewLease_holds (c d : ConsumerIdx) (s : State) : (renewLease c s).holds d = s.holds d := by
  unfold renewLease
  split
  · rename_i h
    revert h
    simp only [State.holds]
    cases s.lease with
    | none => simp
    | some x =>
      intro h
      have : x.holder = c := by simpa using h
      simp [this]
  · rfl

/-! ## Claims on the store -/

/-- A record leaving its consumer changes that port and that link alone. -/
theorem dropDispatch_frame (c : ConsumerIdx) (r : RecIdx) (s : State) :
    dropDispatch c r s = { s with ports := (dropDispatch c r s).ports, links := (dropDispatch c r s).links } := rfl

/-- Clearing a pointer changes the Level Image alone. -/
theorem clearPointer_frame (r : RecIdx) (s : State) :
    clearPointer r s = { s with levels := (clearPointer r s).levels } := rfl

/-- Joining the free list changes the record and the list alone. -/
theorem joinFreeList_frame (r : RecIdx) (s : State) :
    joinFreeList r s = { s with records := (joinFreeList r s).records, freeList := s.freeList ++ [r] } := rfl

/-- Writing an entry changes the Abandon Log alone. -/
theorem writeEntry_frame (e : LogEntry) (s : State) :
    writeEntry e s =
      { s with
        log := (writeEntry e s).log, overwrites := (writeEntry e s).overwrites, nextEntry := s.nextEntry + 1 } := by
  unfold writeEntry
  split <;> rfl

/-- The log keeps at most 16 entries (R138). -/
theorem writeEntry_length (e : LogEntry) (s : State) (h : s.log.length ≤ 16) : (writeEntry e s).log.length ≤ 16 := by
  unfold writeEntry
  split
  · rename_i hlt
    have : Config.logCapacity = 16 := rfl
    simp
    omega
  · rename_i hge
    have : Config.logCapacity = 16 := rfl
    simp
    omega

/-- What an abandonment does before the record is freed: the log, the notices, the counter and the pointer. -/
theorem recordAbandon_frame (r : RecIdx) (k : ClassIdx) (x : Reason) (s : State) :
    recordAbandon r k x s =
      { s with
        log := (recordAbandon r k x s).log, overwrites := (recordAbandon r k x s).overwrites
        nextEntry := s.nextEntry + 1, notices := { s.notices with abandon := true }
        classes := (recordAbandon r k x s).classes, levels := (recordAbandon r k x s).levels } := by
  unfold recordAbandon
  rw [clearPointer_frame]
  rw [writeEntry_frame (logEntryOf s r k x) s]
  rfl

/-- The hold rule and the drain rule after changes to the store, the classes, the ports and the links. -/
theorem rules_frame (k : ClassIdx) {s u : State}
    (hu : u = { s with
      links := u.links, records := u.records, freeList := u.freeList, queues := u.queues, classes := u.classes
      ports := u.ports }) :
    applyHold (drainCheck k u) =
      { s with
        links := (applyHold (drainCheck k u)).links, records := (applyHold (drainCheck k u)).records
        freeList := (applyHold (drainCheck k u)).freeList, queues := (applyHold (drainCheck k u)).queues
        classes := (applyHold (drainCheck k u)).classes, ports := (applyHold (drainCheck k u)).ports
        hold := (applyHold (drainCheck k u)).hold, notices := (applyHold (drainCheck k u)).notices } := by
  have hd := drainCheck_frame k u
  have ha := applyHold_frame (drainCheck k u)
  generalize applyHold (drainCheck k u) = v at ha ⊢
  generalize drainCheck k u = w at hd ha
  cases s
  cases u
  cases v
  cases w
  simp only [State.mk.injEq] at hu hd ha ⊢
  simp [*]

/-- Freeing a record changes the store, its class, its consumer's port and link, the hold state and the notices. -/
theorem freeRecord_frame (r : RecIdx) (s : State) :
    freeRecord r s =
      { s with
        links := (freeRecord r s).links, records := (freeRecord r s).records, freeList := (freeRecord r s).freeList
        queues := (freeRecord r s).queues, classes := (freeRecord r s).classes, ports := (freeRecord r s).ports
        hold := (freeRecord r s).hold, notices := (freeRecord r s).notices } := by
  unfold freeRecord
  split
  · rfl
  all_goals exact rules_frame _ rfl

/-- An abandonment changes what freeing changes, the Abandon Log and the Level Image. -/
theorem abandon_frame (r : RecIdx) (x : Reason) (s : State) :
    abandon r x s =
      { s with
        links := (abandon r x s).links, records := (abandon r x s).records, freeList := (abandon r x s).freeList
        queues := (abandon r x s).queues, classes := (abandon r x s).classes, ports := (abandon r x s).ports
        hold := (abandon r x s).hold, notices := (abandon r x s).notices, log := (abandon r x s).log
        overwrites := (abandon r x s).overwrites, nextEntry := (abandon r x s).nextEntry
        levels := (abandon r x s).levels } := by
  unfold abandon
  split
  · rfl
  · rename_i k _
    rw [freeRecord_frame, recordAbandon_frame r k x s]

/-- A return changes the record, its class and queue, and its consumer's port and link. -/
theorem returnRecord_frame (r : RecIdx) (s : State) :
    returnRecord r s =
      { s with
        links := (returnRecord r s).links, records := (returnRecord r s).records, queues := (returnRecord r s).queues
        classes := (returnRecord r s).classes, ports := (returnRecord r s).ports } := by
  unfold returnRecord
  split <;> rfl

/-- The failure decision is an abandonment or a return. -/
theorem failureDecision_cases (k : ClassIdx) (r : RecIdx) (s : State) :
    (s.purgeDraining k = true ∧ failureDecision k r s = abandon r .purged s) ∨
      (s.purgeDraining k = false ∧ (s.cls k).config.attemptLimit.val ≤ (s.rcd r).failed.toNat ∧
        failureDecision k r s = abandon r .exhausted s) ∨
      (s.purgeDraining k = false ∧ (s.rcd r).failed.toNat < (s.cls k).config.attemptLimit.val ∧
        failureDecision k r s = returnRecord r s) := by
  unfold failureDecision
  by_cases hp : s.purgeDraining k = true
  · simp [hp]
  · by_cases hl : (s.cls k).config.attemptLimit.val ≤ (s.rcd r).failed.toNat
    · simp [hp, hl]
    · simp [hp, hl]
      omega

/-! ## Received cells -/

/-- A good cell on an UP link ends the bad-cell run and goes on. -/
theorem goodCell_up {l : LinkId} {s : State} (h : (s.link l).state = .up) (k : State → State) :
    goodCell l k s = k (s.modLink l fun x => { x with alignCount := 0, badRun := 0 }) := by
  simp [goodCell, h]

/-- A DOWN link receives nothing. -/
theorem goodCell_down {l : LinkId} {s : State} (h : (s.link l).state = .down) (k : State → State) : goodCell l k s = s := by
  simp [goodCell, h]

/-- A good cell on an ALIGNING link counts toward alignment, whatever it carries. -/
theorem goodCell_aligning {l : LinkId} {s : State} (h : (s.link l).state = .aligning) (k : State → State) :
    goodCell l k s = goodAligning l s := by
  simp [goodCell, h]

/-- A cell on an UP link with no restart in progress goes on to its block. -/
theorem passOn_up {l : LinkId} {s : State} (h : (s.link l).state = .up) (hr : s.restart = none) (k : State → State) :
    passOn l k s = k (s.modLink l fun x => { x with alignCount := 0, badRun := 0 }) := by
  simp [passOn, goodCell, h, hr]

/-- A cell on an UP link during a restart is discarded and counted. -/
theorem passOn_restart {l : LinkId} {s : State} (h : (s.link l).state = .up) (hr : s.restart ≠ none) (k : State → State) :
    passOn l k s =
      (s.modLink l fun x => { x with alignCount := 0, badRun := 0 }).modLink l fun x =>
        { x with discarded := satUp x.discarded } := by
  cases hj : s.restart with
  | none => exact absurd hj hr
  | some j => simp [passOn, goodCell, h, hj]

/-! ## Requests -/

/-- The state after a request has been carried out with an immediate response. -/
theorem carryOut_reply {c : ConsumerIdx} {seq : Byte} {op : State → Answer} {s u : State} {st : Status} {d : Page}
    (h : op s = ⟨u, some (st, d)⟩) :
    carryOut c seq op s =
      renewLease c ((placeResponse c ⟨seq, st, d⟩ u).modPort c fun p => { p with replay := some ⟨seq, st, d⟩ }) := by
  simp [carryOut, h]

/-- A request into an empty response slot whose seq is not the replay record's is carried out. -/
theorem intake_new {c : ConsumerIdx} {seq : Byte} {s : State} (op : State → Answer)
    (hs : (s.port c).responseSlot = none) (hr : ∀ r, (s.port c).replay = some r → r.seq ≠ seq) :
    intake c seq op s = carryOut c seq op s := by
  unfold intake
  rw [hs]
  cases h : (s.port c).replay with
  | none => rfl
  | some r => simp [hr r h]

/-- A request of the holder reaches its operation. -/
theorem holderOnly_holder {c : ConsumerIdx} {s : State} (h : s.holds c = true) (op : State → Answer) :
    holderOnly c op s = op s := by
  simp [holderOnly, h]

/-- A request that needs the lease from another sender is denied. -/
theorem holderOnly_other {c : ConsumerIdx} {s : State} (h : s.holds c = false) (op : State → Answer) :
    holderOnly c op s = deny .notHolder s := by
  simp [holderOnly, h]

end Sys2Proof.Machine
end

