-- ==== Sys2Proof/Laws/Events.lean ====
section
/-! SUPPORT. The path of an EVENT in lemmas: what classification finds, and where a cell that is passed on goes. -/

namespace Sys2Proof.Machine

/-- Classification finds a class exactly when the cell is routed to it (R27). -/
theorem classify_some_iff (s : State) (a : Addr) (kind : Kind) (k : ClassIdx) :
    classify s.steering a kind = some k ↔ RoutedTo s a kind k := by
  unfold classify RoutedTo
  constructor
  · intro h
    obtain ⟨e, he, hk⟩ := Option.map_eq_some_iff.mp h
    rw [List.find?_eq_some_iff_getElem] at he
    obtain ⟨hp, i, hi, hei, hlt⟩ := he
    have hi64 : i < 64 := by simpa using hi
    refine ⟨⟨i, hi64⟩, ?_, ?_, ?_, ?_⟩
    · have : Tab.nth s.steering ⟨i, hi64⟩ = e := hei
      rw [this]
      simp at hp
      exact hp.1
    · have : Tab.nth s.steering ⟨i, hi64⟩ = e := hei
      rw [this]
      simp at hp
      exact hp.2
    · have : Tab.nth s.steering ⟨i, hi64⟩ = e := hei
      rw [this]
      exact hk
    · intro j hj hjp
      have := hlt j.val hj
      have hj' : s.steering.toList[j.val]'(by simp) = Tab.nth s.steering j := rfl
      rw [hj'] at this
      simp [hjp.1, hjp.2] at this
  · rintro ⟨i, hv, hh, hk, hlt⟩
    apply Option.map_eq_some_iff.mpr
    refine ⟨Tab.nth s.steering i, ?_, hk⟩
    rw [List.find?_eq_some_iff_getElem]
    refine ⟨by simp [hv, hh], i.val, by simp, rfl, ?_⟩
    intro j hj
    have hj64 : j < 64 := by omega
    have hj' : s.steering.toList[j]'(by simp; omega) = Tab.nth s.steering ⟨j, hj64⟩ := rfl
    rw [hj']
    have := hlt ⟨j, hj64⟩ hj
    by_cases hvj : (Tab.nth s.steering ⟨j, hj64⟩).valid = true
    · simp [hvj]
      by_cases hhj : (Tab.nth s.steering ⟨j, hj64⟩).holdsCell a kind = true
      · exact absurd ⟨hvj, hhj⟩ this
      · simpa using hhj
    · simp [hvj]

/-- Classification finds nothing exactly when the cell is unmatched (R28). -/
theorem classify_none_iff (s : State) (a : Addr) (kind : Kind) :
    classify s.steering a kind = none ↔ Unmatched s a kind := by
  unfold classify Unmatched
  rw [Option.map_eq_none_iff, List.find?_eq_none]
  constructor
  · intro h i hi
    have hm : Tab.nth s.steering i ∈ s.steering.toList := List.getElem_mem _
    have := h _ hm
    simp [hi.1, hi.2] at this
  · intro h e he
    obtain ⟨i, hi, rfl⟩ := List.getElem_of_mem he
    have hi64 : i < 64 := by simpa using hi
    have hj' : s.steering.toList[i] = Tab.nth s.steering ⟨i, hi64⟩ := rfl
    rw [hj']
    have := h ⟨i, hi64⟩
    simpa using this

/-- With no cell waiting Steering has nothing to catch up on. -/
theorem catchUp_nil {n : Fin 4} {s : State} (h : Tab.nth s.handed n = []) : catchUp n s = s := by
  simp [catchUp, h]

/-- Cells that wait are taken in the order of their arrival, and none waits then. -/
theorem catchUp_cons {n : Fin 4} {s : State} {x : Arrival} {rest : List Arrival} (h : Tab.nth s.handed n = x :: rest) :
    catchUp n s = (x :: rest).foldl takeArrival { s with handed := Tab.put s.handed n [] } := by
  simp [catchUp, h]

/-- A cell that ends at a link with no cell waiting changes nothing at Steering. -/
theorem settle_caughtUp {l : LinkId} {s : State} (h : CaughtUp s l) : settle l s = s := by
  cases l with
  | source n => exact catchUp_nil (h n rfl)
  | consumer c => rfl

/-- An EVENT with its fields in range on a link that passes its cells on goes to Steering with the Timebase as its stamp. -/
theorem exec_command {x : Arrival} {s : State} (hp : Passing s (.source x.addr.link))
    (hd : datumOk x.kind x.datum = true) :
    exec x.command s =
      .next (placeNotice (steer { x with stamp := s.timebase }
        { s.modLink (.source x.addr.link) Link.heard with late := s.late.tail })) := by
  show execEvent _ _ _ _ _ _ = _
  unfold execEvent
  rw [hd, if_pos rfl, passOn_up hp.up hp.noRestart]
  have hl : (s.modLink (.source x.addr.link) Link.heard).late.headD false = false := hp.atOnce _ rfl
  have hc : catchUp x.addr.link { s.modLink (.source x.addr.link) Link.heard with late := s.late.tail } =
      { s.modLink (.source x.addr.link) Link.heard with late := s.late.tail } := catchUp_nil (hp.caughtUp _ rfl)
  refine congrArg Host.Outcome.next ?_
  show passEvent { x with stamp := s.timebase } (s.modLink (.source x.addr.link) Link.heard) = _
  unfold passEvent
  rw [hl]
  exact congrArg (fun u => takeArrival u { x with stamp := s.timebase }) hc

/-- An EVENT whose cell Steering has not yet taken when it ends waits behind the cells of its link that wait already. -/
theorem exec_late {x : Arrival} {s : State} (hu : (s.link (.source x.addr.link)).state = .up) (hr : s.restart = none)
    (hd : datumOk x.kind x.datum = true) (hl : s.late.headD false = true) :
    exec x.command s =
      .next { s.modLink (.source x.addr.link) Link.heard with
        handed := Tab.upd s.handed x.addr.link (· ++ [{ x with stamp := s.timebase }]), late := s.late.tail } := by
  show execEvent _ _ _ _ _ _ = _
  unfold execEvent
  rw [hd, if_pos rfl, passOn_up hu hr]
  refine congrArg Host.Outcome.next ?_
  show passEvent { x with stamp := s.timebase } (s.modLink (.source x.addr.link) Link.heard) = _
  unfold passEvent
  have hl' : (s.modLink (.source x.addr.link) Link.heard).late.headD false = true := hl
  rw [hl']
  rfl

/-- Steering hands a routed cell to Admission. -/
theorem steer_routed {x : Arrival} {s : State} {k : ClassIdx} (h : RoutedTo s x.addr x.kind k) :
    steer x s = takeClassified k x s := by
  simp [steer, (classify_some_iff s x.addr x.kind k).mpr h]

/-- Steering counts a cell that is unmatched. -/
theorem steer_unmatched {x : Arrival} {s : State} (h : Unmatched s x.addr x.kind) : steer x s = unmatchedCell x.addr s := by
  simp [steer, (classify_none_iff s x.addr x.kind).mpr h]

/-- A cell that reaches the store tests of an ENABLED class meets them with its channel's entry as Level Confirmation has
left it. -/
theorem takeClassified_toStore {x : Arrival} {s : State} {k : ClassIdx} (he : (s.cls k).state = .enabled)
    (ht : ToStore s x k) :
    takeClassified k x s = storeTests k x (s.modLevel x.addr fun _ => levelAfter s x k) := by
  have hsame : s.modLevel x.addr (fun _ => s.level x.addr) = s := by
    unfold State.modLevel
    rw [Tab.upd_eq_self _ _ _ rfl]
  unfold takeClassified
  rw [he]
  cases hk : x.kind with
  | level =>
    obtain ⟨h1, h2⟩ := ht hk
    simp only [levelReport, verdictOf, h1, h2, levelAfter, hk, if_true]
  | pulse => simp [levelAfter, hk, hsame]
  | value => simp [levelAfter, hk, hsame]

end Sys2Proof.Machine
end

