-- ==== Sys2Proof/Laws/Shared.lean ====
section
/-! SUPPORT. What the shared rules give, in the words of Sys2Proof/Safety.lean: the Notice Unit's test, the hold rule, the
Abandon Log, freeing, and the state in which a cell meets the store tests. -/

namespace Sys2Proof.Machine

/-- Where no NOTICE was due and nothing that the test reads has changed, none is placed. -/
theorem placeNotice_quiet {s t : State} (h : NoticesPlaced s) (hn : t.notices = s.notices) (hl : t.lease = s.lease)
    (hp : ∀ c, (t.port c).noticeSlot = (s.port c).noticeSlot) : placeNotice t = t := by
  rcases h with h | h | ⟨x, h1, h2⟩
  · exact placeNotice_empty t (hn.trans h)
  · exact placeNotice_free t (hl.trans h)
  · cases hs : (s.port x.holder).noticeSlot with
    | none => exact absurd hs h2
    | some n => exact placeNotice_occupied t x n (hl.trans h1) (by rw [hp, hs])

/-- The Notice Unit's test is that of R142. -/
theorem placeNotice_test (s u : State) (hl : u.lease = s.lease)
    (hp : ∀ c, (u.port c).noticeSlot = (s.port c).noticeSlot) : NoticeTest u.notices s (placeNotice u) := by
  unfold NoticeTest
  cases hs : s.lease with
  | none =>
    rw [placeNotice_free u (hl.trans hs)]
    simp [noticeDue, hs, hp]
  | some y =>
    by_cases hn : u.notices = NoticeSet.none
    · rw [placeNotice_empty u hn]
      simp [noticeDue, hn, hp]
    · cases hsl : (s.port y.holder).noticeSlot with
      | some n =>
        rw [placeNotice_occupied u y n (hl.trans hs) (by rw [hp, hsl])]
        simp [noticeDue, hs, hsl, hp]
      | none =>
        rw [placeNotice_due u y hn (hl.trans hs) (by rw [hp, hsl])]
        simp [noticeDue, hs, hsl, hn]
        intro c
        by_cases hc : c = y.holder
        · subst hc
          simp [State.holds, hs, noticeOf]
        · simp [State.holds, hs, hc, hp, Ne.symm hc]

/-- The hold rule gives the hold state of R49. -/
theorem applyHold_hold (s u : State) (h1 : u.hold = s.hold) (h2 : u.device = s.device) (h3 : u.restart = s.restart) :
    (applyHold u).hold = holdNext s u.freeCount := by
  unfold applyHold holdNext
  rw [h1, h2, h3]
  cases hs : s.hold
  all_goals
    simp only
    split <;> simp [h1, hs]

/-- The hold rule raises the hold kind when it asserts hold (R51). -/
theorem applyHold_notices (s u : State) (h1 : u.hold = s.hold) (h2 : u.device = s.device) :
    (applyHold u).notices = { u.notices with hold := u.notices.hold || holdRaises s u.freeCount } := by
  unfold applyHold holdRaises
  rw [h1, h2]
  cases s.hold
  · simp only
    split <;> simp [raiseHold, *]
  · have : (HoldState.asserted == HoldState.released) = false := rfl
    simp only [this, Bool.false_and, Bool.or_false]
    split <;> rfl

/-- Writing an entry is what R138 says. -/
theorem writeEntry_takes (e : LogEntry) (s : State) : LogTakes e s (writeEntry e s) := by
  unfold LogTakes writeEntry
  have : Config.logCapacity = 16 := rfl
  by_cases h : s.log.length < 16
  · simp [this, h, Nat.not_le.mpr h]
  · simp [this, h, Nat.le_of_not_lt h]

/-- An offered cell carries the Timebase as its stamp. -/
theorem Offered.stamped_eq {x : Arrival} {s : State} {k : ClassIdx} (h : Offered s x k) :
    ({ x with stamp := s.timebase } : Arrival) = x := by
  rw [← h.stamped]

/-- An offered cell that reaches the store tests meets them with its channel's entry as Level Confirmation has left it. -/
theorem exec_toStore {x : Arrival} {s : State} {k : ClassIdx} (h : Offered s x k) (ht : ToStore s x k) :
    exec x.command s =
      .next (placeNotice (storeTests k x
        { (s.modLink (.source x.addr.link) Link.heard).modLevel x.addr (fun _ => levelAfter s x k) with
          late := s.late.tail })) := by
  rw [exec_command h.passing h.inRange, Offered.stamped_eq h,
    steer_routed (s := { s.modLink (.source x.addr.link) Link.heard with late := s.late.tail }) h.routed,
    takeClassified_toStore (s := { s.modLink (.source x.addr.link) Link.heard with late := s.late.tail }) h.enabled ht]
  rfl

/-- Without room, a class with the DISPLACE policy displaces the head of its queue, if there is one (R45). -/
theorem storeTests_displace {x : Arrival} {k : ClassIdx} {A : State}
    (hpol : (A.cls k).config.policy = .displace)
    (hroom : ¬ A.holding k < (A.cls k).config.pendingLimit.val ∨ A.freeList = []) :
    storeTests k x A = match A.queue k with | [] => refuse k A | r :: rest => displace k x r rest A := by
  have ho : overflow k x A = match A.queue k with | [] => refuse k A | r :: rest => displace k x r rest A :=
    congrArg (fun p : OverflowPolicy =>
      match p with
      | .refuse => refuse k A
      | .displace => match A.queue k with | [] => refuse k A | r :: rest => displace k x r rest A) hpol
  refine Eq.trans ?_ ho
  unfold storeTests
  rcases hroom with h | h
  · cases A.freeList with
    | nil => rfl
    | cons r rest => exact if_neg h
  · rw [h]

/-- The drain rule and the hold rule after a record has joined the free list. -/
theorem rules_after_free (s u : State) (k : ClassIdx) (h1 : u.hold = s.hold) (h2 : u.device = s.device)
    (h3 : u.restart = s.restart) :
    applyHold (drainCheck k u) =
      { u with
        classes := Tab.upd u.classes k ClassRecord.drained
        hold := holdNext s u.freeCount
        notices :=
          { u.notices with
            idle := if (u.cls k).drainEnds then addTo u.notices.idle k.val else u.notices.idle
            hold := u.notices.hold || holdRaises s u.freeCount } } := by
  have hd : drainCheck k u =
      { u with
        classes := Tab.upd u.classes k ClassRecord.drained
        notices :=
          { u.notices with
            idle := if (u.cls k).drainEnds then addTo u.notices.idle k.val else u.notices.idle } } := by
    unfold drainCheck
    by_cases h : (u.cls k).state = .draining ∧ u.holding k = 0
    · have hh : (u.cls k).pendingCount + (u.cls k).dispatchedCount = 0 := h.2
      have h' : (u.cls k).drainEnds = true := by
        unfold ClassRecord.drainEnds
        rw [h.1, hh]
        rfl
      rw [if_pos h, h']
      have hc : Tab.upd u.classes k ClassRecord.drained =
          Tab.upd u.classes k (fun c => { c with state := .disabled, purge := false }) := by
        apply Tab.ext_nth
        intro j
        by_cases hj : j = k
        · subst hj
          rw [Tab.nth_upd_same, Tab.nth_upd_same]
          show ClassRecord.drained (u.cls j) = _
          unfold ClassRecord.drained
          rw [if_pos ⟨h.1, hh⟩]
          rfl
        · rw [Tab.nth_upd_ne _ _ hj, Tab.nth_upd_ne _ _ hj]
      rw [hc]
      rfl
    · have hh : ¬ ((u.cls k).state = .draining ∧ (u.cls k).pendingCount + (u.cls k).dispatchedCount = 0) := h
      have h' : (u.cls k).drainEnds = false := by
        unfold ClassRecord.drainEnds
        by_cases hs : (u.cls k).state = .draining
        · have : ¬ ((u.cls k).pendingCount + (u.cls k).dispatchedCount = 0) := fun e => hh ⟨hs, e⟩
          rw [decide_eq_false this, Bool.and_false]
        · simp [hs]
      rw [if_neg h, h']
      have hc : Tab.upd u.classes k ClassRecord.drained = u.classes := by
        apply Tab.upd_eq_self
        show ClassRecord.drained (u.cls k) = u.cls k
        unfold ClassRecord.drained
        rw [if_neg hh]
      rw [hc]
      rfl
  have hH := applyHold_hold s (drainCheck k u) (by rw [hd]; exact h1) (by rw [hd]; exact h2)
    (by rw [hd]; exact h3)
  have hN := applyHold_notices s (drainCheck k u) (by rw [hd]; exact h1) (by rw [hd]; exact h2)
  have hF : (drainCheck k u).freeCount = u.freeCount := by
    rw [hd]
    rfl
  rw [hF] at hH hN
  rw [applyHold_frame, hH, hN, hd]

/-- Freeing a dispatched record, in full (R5). -/
theorem freeRecord_dispatched {s : State} {r : RecIdx} {k : ClassIdx} {c : ConsumerIdx} (h : DispatchedTo s r k c) :
    freeRecord r s =
      { s with
        links := Tab.upd s.links (linkIndex (.consumer c)) fun l => { l with wire := l.wire.withdraw r }
        records := Tab.upd s.records r EventRecord.freed
        freeList := s.freeList ++ [r]
        classes := Tab.upd s.classes k fun x =>
          ({ x with dispatchedCount := x.dispatchedCount - 1 } : ClassRecord).drained
        ports := Tab.upd s.ports c fun p =>
          { p with tx := withoutDeliver r p.tx, waitingAck := without r p.waitingAck, dispatched := p.dispatched - 1 }
        hold := holdNext s (s.freeCount + 1)
        notices :=
          { s.notices with
            idle := if ({ s.cls k with dispatchedCount := (s.cls k).dispatchedCount - 1 } : ClassRecord).drainEnds
              then addTo s.notices.idle k.val else s.notices.idle
            hold := s.notices.hold || holdRaises s (s.freeCount + 1) } } := by
  have e : freeRecord r s = applyHold (drainCheck k (joinFreeList r
      ((dropDispatch c r s).modClass k fun x => { x with dispatchedCount := x.dispatchedCount - 1 }))) := by
    unfold freeRecord
    rcases h with h | ⟨d, h⟩ <;> rw [h]
  rw [e]
  generalize hu : joinFreeList r
      ((dropDispatch c r s).modClass k fun x => { x with dispatchedCount := x.dispatchedCount - 1 }) = u
  rw [rules_after_free s u k (by subst hu; rfl) (by subst hu; rfl) (by subst hu; rfl)]
  have hf : u.freeCount = s.freeCount + 1 := by
    subst hu
    simp [joinFreeList, State.freeCount, dropDispatch]
  have hc : u.cls k = { s.cls k with dispatchedCount := (s.cls k).dispatchedCount - 1 } := by
    subst hu
    simp [joinFreeList, dropDispatch]
  have hc2 : Tab.upd u.classes k ClassRecord.drained =
      Tab.upd s.classes k fun x =>
        ({ x with dispatchedCount := x.dispatchedCount - 1 } : ClassRecord).drained := by
    subst hu
    exact Tab.upd_upd_same s.classes k _ _
  rw [hf, hc, hc2]
  subst hu
  rfl

/-- The acceptance test is that of R16. -/
theorem acceptedClass_some_iff {s : State} {c : ConsumerIdx} {tag : Tag} {k : ClassIdx} :
    acceptedClass s c tag = some k ↔ Accepted s c tag k := by
  unfold acceptedClass Accepted DispatchedTo
  constructor
  · intro h
    by_cases hg : (s.rcd tag.index).generation = tag.generation
    · rw [if_pos hg] at h
      refine ⟨?_, hg⟩
      cases hp : (s.rcd tag.index).place with
      | free => simp [hp, Place.heldBy] at h
      | pending j => simp [hp, Place.heldBy] at h
      | queued j d =>
        simp [hp, Place.heldBy] at h
        exact Or.inl (by rw [h.1, h.2])
      | awaiting j d x =>
        simp [hp, Place.heldBy] at h
        exact Or.inr ⟨x, by rw [h.1, h.2]⟩
    · simp [hg] at h
  · rintro ⟨h | ⟨d, h⟩, hg⟩ <;> rw [if_pos hg, h] <;> simp [Place.heldBy]

/-- Returning a dispatched record, in full (R12). -/
theorem returnRecord_dispatched {s : State} {r : RecIdx} {k : ClassIdx} {c : ConsumerIdx} (h : DispatchedTo s r k c) :
    returnRecord r s =
      { s with
        links := Tab.upd s.links (linkIndex (.consumer c)) fun l => { l with wire := l.wire.withdraw r }
        records := Tab.upd s.records r fun e => { e with place := .pending k, tried := addTo e.tried c.val }
        queues := Tab.upd s.queues k (r :: ·)
        classes := Tab.upd s.classes k fun x =>
          { x with dispatchedCount := x.dispatchedCount - 1, pendingCount := x.pendingCount + 1 }
        ports := Tab.upd s.ports c fun p =>
          { p with
            tx := withoutDeliver r p.tx, waitingAck := without r p.waitingAck, dispatched := p.dispatched - 1 } } := by
  unfold returnRecord
  rcases h with h | ⟨d, h⟩ <;> rw [h] <;> rfl

/-- Abandoning a dispatched record: the record is logged and then freed (R15). -/
theorem abandon_dispatched {s : State} {r : RecIdx} {k : ClassIdx} {c : ConsumerIdx} (why : Reason)
    (h : DispatchedTo s r k c) : abandon r why s = freeRecord r (recordAbandon r k why s) := by
  unfold abandon
  rcases h with h | ⟨d, h⟩ <;> rw [h] <;> rfl

/-- What an abandonment does before the record is freed, in full (R15). -/
theorem recordAbandon_eq (r : RecIdx) (k : ClassIdx) (why : Reason) (s : State) :
    recordAbandon r k why s =
      { s with
        log := (writeEntry (logEntryOf s r k why) s).log
        overwrites := (writeEntry (logEntryOf s r k why) s).overwrites
        nextEntry := s.nextEntry + 1
        notices := { s.notices with abandon := true }
        classes := Tab.upd s.classes k fun c => { c with abandoned := satUp c.abandoned }
        levels := Tab.upd s.levels (levelIndex (s.rcd r).addr) fun e =>
          if e.pendingRec = some r then { e with pendingRec := none } else e } := by
  unfold recordAbandon clearPointer
  rw [writeEntry_frame (logEntryOf s r k why) s]
  rfl

end Sys2Proof.Machine
end

