-- ==== Sys2Proof/Laws/Answers.lean ====
section
/-! SUPPORT. A request from its cell to its answer: one lemma that turns what an operation answers into the state after the
command, in the words of Sys2Proof/Safety.lean. -/

namespace Sys2Proof.Machine

/-- The state in which an operation is carried out: the sender's link has heard the REQUEST. -/
def heardFrom (c : ConsumerIdx) (s : State) : State := s.modLink (.consumer c) Link.heard

/-- The sender's hold on the lease does not depend on its link. -/
@[simp] theorem heardFrom_holds (c d : ConsumerIdx) (s : State) : (heardFrom c s).holds d = s.holds d := rfl

/-- A request that is carried out, whose operation answers with a status and data at once, ends in `replied`. -/
theorem request_replied {c : ConsumerIdx} {seq : Byte} {op : State → Answer} {s u : State} {st : Status} {d : Page}
    (hc : Carried s c seq) (h : op (heardFrom c s) = ⟨heardFrom c u, some (st, d)⟩) :
    request c seq op s = replied c seq st d u := by
  unfold request
  rw [passOn_up hc.up hc.noRestart]
  have hs : ((s.modLink (.consumer c) fun x => { x with alignCount := 0, badRun := 0 }).port c).responseSlot = none :=
    hc.slotEmpty
  rw [intake_new op hs (by exact hc.notReplay)]
  show carryOut c seq op (heardFrom c s) = _
  rw [carryOut_reply (u := heardFrom c u) (st := st) (d := d) h]
  unfold renewLease
  have hp : Tab.upd (Tab.upd u.ports c fun p => { p with responseSlot := some ⟨seq, st, d⟩ }) c
      (fun p => { p with replay := some ⟨seq, st, d⟩ }) =
      Tab.upd u.ports c fun p => { p with responseSlot := some ⟨seq, st, d⟩, replay := some ⟨seq, st, d⟩ } :=
    Tab.upd_upd_same _ _ _ _
  by_cases hh : u.holds c = true
  · have hh' : ((placeResponse c ⟨seq, st, d⟩ (heardFrom c u)).modPort c
        fun p => { p with replay := some ⟨seq, st, d⟩ }).holds c = true := hh
    rw [if_pos hh']
    unfold replied
    rw [if_pos hh, ← hp]
    rfl
  · have hh' : ¬ ((placeResponse c ⟨seq, st, d⟩ (heardFrom c u)).modPort c
        fun p => { p with replay := some ⟨seq, st, d⟩ }).holds c = true := hh
    rw [if_neg hh']
    unfold replied
    rw [if_neg hh, ← hp]
    rfl

/-- The same for a request that needs the lease, from its holder. -/
theorem request_holder {c : ConsumerIdx} {seq : Byte} {op : State → Answer} {s u : State} {st : Status} {d : Page}
    (hc : HolderAsks s c seq) (h : op (heardFrom c s) = ⟨heardFrom c u, some (st, d)⟩) :
    request c seq (holderOnly c op) s = replied c seq st d u := by
  apply request_replied hc.carried
  rw [holderOnly_holder (by exact hc.holder), h]

/-- A request that is denied changes nothing but the sender's answer. -/
theorem request_denied {c : ConsumerIdx} {seq : Byte} {op : State → Answer} {s : State} {st : Status}
    (hc : Carried s c seq) (h : op (heardFrom c s) = deny st (heardFrom c s)) :
    request c seq op s = replied c seq st Page.zero s :=
  request_replied hc h

/-- The same for a request that needs the lease, from its holder. -/
theorem request_holder_denied {c : ConsumerIdx} {seq : Byte} {op : State → Answer} {s : State} {st : Status}
    (hc : HolderAsks s c seq) (h : op (heardFrom c s) = deny st (heardFrom c s)) :
    request c seq (holderOnly c op) s = replied c seq st Page.zero s :=
  request_holder hc h

end Sys2Proof.Machine
end

