-- ==== Sys2Proof/Laws/Grants.lean ====
section
/-! SUPPORT. What each choice that GRANT makes gives (R107, R110 to R114): the class served, the consumers considered, the
least loaded of them. -/

namespace Sys2Proof.Machine

/-- Every consumer is in the list of all. -/
theorem mem_allConsumers (c : ConsumerIdx) : c ∈ allConsumers := by
  revert c
  decide

/-- A round robin meets every class. -/
theorem mem_searchFrom (start j : ClassIdx) : j ∈ searchFrom start := by
  unfold searchFrom
  rw [List.mem_map]
  refine ⟨(j - start).val, by rw [List.mem_range]; exact (j - start).isLt, ?_⟩
  apply Fin.ext
  simp [Fin.sub_def, Fin.add_def]
  omega

/-- The winner of a level is the contender there that the pointer's round robin meets first (R110, R111). -/
theorem levelWinner_some {s : State} {p : Fin 4} {k : ClassIdx} (h : levelWinner s p = some k) :
    isContender s k = true ∧ (s.cls k).config.priority = p ∧
      ∀ j, isContender s j = true → (s.cls j).config.priority = p →
        (k - Tab.nth s.pointers p).val ≤ (j - Tab.nth s.pointers p).val := by
  unfold levelWinner at h
  rw [List.find?_eq_some_iff_getElem] at h
  obtain ⟨hk, i, hi, hik, hlt⟩ := h
  simp at hk
  refine ⟨hk.1, hk.2, ?_⟩
  intro j hj hjp
  have hi32 : i < 32 := by simpa [searchFrom] using hi
  have e1 : k = Tab.nth s.pointers p + Fin.ofNat 32 i := by
    rw [← hik]
    simp [searchFrom]
  have e2 : (k - Tab.nth s.pointers p).val = i := by
    rw [e1]
    simp [Fin.sub_def, Fin.add_def]
    omega
  rw [e2]
  by_contra hcon
  have hlt' := hlt (j - Tab.nth s.pointers p).val (by omega)
  have e3 : (searchFrom (Tab.nth s.pointers p))[(j - Tab.nth s.pointers p).val]'(by simp [searchFrom]) = j := by
    simp only [searchFrom, List.getElem_map, List.getElem_range]
    apply Fin.ext
    simp [Fin.sub_def, Fin.add_def]
    omega
  rw [e3] at hlt'
  simp [hj, hjp] at hlt'

/-- A level without a winner has no contender. -/
theorem levelWinner_none {s : State} {p : Fin 4} {j : ClassIdx} (h : levelWinner s p = none)
    (hj : isContender s j = true) : (s.cls j).config.priority ≠ p := by
  intro hp
  unfold levelWinner at h
  rw [List.find?_eq_none] at h
  have := h j (mem_searchFrom _ j)
  simp [hj, hp] at this

/-- A winner with no winner at a lower level number is served before every other contender. -/
theorem levelWinner_first {s : State} {p : Fin 4} {k : ClassIdx} (h : levelWinner s p = some k)
    (hq : ∀ q, q < p → levelWinner s q = none) :
    isContender s k = true ∧
      (∀ j, isContender s j = true → (s.cls k).config.priority ≤ (s.cls j).config.priority) ∧
      ∀ j, isContender s j = true → (s.cls j).config.priority = (s.cls k).config.priority →
        (k - Tab.nth s.pointers (s.cls k).config.priority).val ≤
          (j - Tab.nth s.pointers (s.cls k).config.priority).val := by
  obtain ⟨a, b, c⟩ := levelWinner_some h
  refine ⟨a, ?_, by rw [b]; exact c⟩
  intro j hj
  rw [b]
  by_contra hlt
  exact levelWinner_none (hq _ (not_le.mp hlt)) hj rfl

/-- Whenever a class contends, the class served is the first by priority and then by round robin (R110, R111). -/
theorem chooseClass_some {s : State} (h : ∃ j, isContender s j = true) :
    ∃ k, chooseClass s = some k ∧ isContender s k = true ∧
      (∀ j, isContender s j = true → (s.cls k).config.priority ≤ (s.cls j).config.priority) ∧
      ∀ j, isContender s j = true → (s.cls j).config.priority = (s.cls k).config.priority →
        (k - Tab.nth s.pointers (s.cls k).config.priority).val ≤
          (j - Tab.nth s.pointers (s.cls k).config.priority).val := by
  obtain ⟨j, hj⟩ := h
  unfold chooseClass
  simp only [List.findSome?]
  cases h0 : levelWinner s 0 with
  | some k => exact ⟨k, rfl, levelWinner_first h0 fun q hq => absurd hq (Fin.not_lt_zero q)⟩
  | none =>
    cases h1 : levelWinner s 1 with
    | some k =>
      refine ⟨k, rfl, levelWinner_first h1 fun q hq => ?_⟩
      obtain rfl : q = 0 := by omega
      exact h0
    | none =>
      cases h2 : levelWinner s 2 with
      | some k =>
        refine ⟨k, rfl, levelWinner_first h2 fun q hq => ?_⟩
        have : q = 0 ∨ q = 1 := by omega
        rcases this with rfl | rfl <;> assumption
      | none =>
        cases h3 : levelWinner s 3 with
        | some k =>
          refine ⟨k, rfl, levelWinner_first h3 fun q hq => ?_⟩
          have : q = 0 ∨ q = 1 ∨ q = 2 := by omega
          rcases this with rfl | rfl | rfl <;> assumption
        | none =>
          exfalso
          have a := levelWinner_none h0 hj
          have b := levelWinner_none h1 hj
          have c := levelWinner_none h2 hj
          have d := levelWinner_none h3 hj
          generalize (s.cls j).config.priority = p at *
          revert p
          decide

/-- The consumers considered for a record: the candidates outside its tried set, or every candidate when there is none
(R113). -/
theorem mem_considered {s : State} {k : ClassIdx} {r : RecIdx} {c : ConsumerIdx} :
    c ∈ considered s k r ↔
      isCandidate s k c = true ∧
        ((∃ d, isCandidate s k d = true ∧ (s.rcd r).tried.getLsbD d.val = false) →
          (s.rcd r).tried.getLsbD c.val = false) := by
  have m1 : ∀ d, d ∈ allConsumers.filter (isCandidate s k) ↔ isCandidate s k d = true := fun d => by
    rw [List.mem_filter]
    exact ⟨fun h => h.2, fun h => ⟨mem_allConsumers d, h⟩⟩
  have m2 : ∀ d, d ∈ ((allConsumers.filter (isCandidate s k)).filter fun c => !inSet (s.rcd r).tried c.val) ↔
      isCandidate s k d = true ∧ (s.rcd r).tried.getLsbD d.val = false := fun d => by
    rw [List.mem_filter, m1]
    unfold inSet
    rw [Bool.not_eq_true']
  unfold considered
  simp only []
  by_cases h : ((allConsumers.filter (isCandidate s k)).filter fun c => !inSet (s.rcd r).tried c.val).isEmpty = true
  · rw [if_pos h, m1]
    refine ⟨fun hc => ⟨hc, ?_⟩, fun hc => hc.1⟩
    rintro ⟨d, hd⟩
    have := (m2 d).mpr hd
    rw [List.isEmpty_iff] at h
    simp [h] at this
  · rw [if_neg h, m2]
    rw [List.isEmpty_iff] at h
    obtain ⟨d, hd⟩ := List.exists_mem_of_ne_nil _ h
    exact ⟨fun hc => ⟨hc.1, fun _ => hc.2⟩, fun hc => ⟨hc.1, hc.2 ⟨d, (m2 d).mp hd⟩⟩⟩

/-- The consumers considered stand in ascending order. -/
theorem considered_ascending (s : State) (k : ClassIdx) (r : RecIdx) : (considered s k r).Pairwise (· < ·) := by
  have h : allConsumers.Pairwise (· < ·) := by decide
  unfold considered
  simp only []
  split
  · exact h.filter _
  · exact (h.filter _).filter _

/-- The least loaded of a list without repeats: its effective load is the lowest, and of a tie it comes first (R114). -/
theorem leastLoaded_some (s : State) (cs : List ConsumerIdx) (hnd : cs.Nodup) :
    (cs ≠ [] → ∃ c, leastLoaded s cs = some c) ∧
      ∀ c, leastLoaded s cs = some c → c ∈ cs ∧ ∀ d ∈ cs, d ≠ c →
        effectiveLoad s c < effectiveLoad s d ∨
          (effectiveLoad s c = effectiveLoad s d ∧ cs.idxOf c < cs.idxOf d) := by
  induction cs with
  | nil => simp [leastLoaded]
  | cons a rest ih =>
    obtain ⟨hna, hnr⟩ := List.nodup_cons.mp hnd
    obtain ⟨ih1, ih2⟩ := ih hnr
    cases hl : leastLoaded s rest with
    | none =>
      have hr : rest = [] := by
        by_contra h
        obtain ⟨c, hc⟩ := ih1 h
        simp [hl] at hc
      subst hr
      simp [leastLoaded]
    | some d =>
      obtain ⟨hd, hmin⟩ := ih2 d hl
      have hda : d ≠ a := fun e => hna (e ▸ hd)
      constructor
      · intro _
        simp only [leastLoaded, hl]
        split <;> exact ⟨_, rfl⟩
      · intro c hc
        simp only [leastLoaded, hl] at hc
        by_cases hlt : effectiveLoad s d < effectiveLoad s a
        · rw [if_pos hlt] at hc
          obtain rfl : d = c := by simpa using hc
          refine ⟨List.mem_cons_of_mem _ hd, ?_⟩
          intro e he hne
          rcases List.mem_cons.mp he with rfl | he
          · exact Or.inl hlt
          · rcases hmin e he hne with h | ⟨h1, h2⟩
            · exact Or.inl h
            · have : e ≠ a := fun x => hna (x ▸ he)
              refine Or.inr ⟨h1, ?_⟩
              rw [List.idxOf_cons_ne _ (Ne.symm hda), List.idxOf_cons_ne _ (Ne.symm this)]
              omega
        · rw [if_neg hlt] at hc
          obtain rfl : a = c := by simpa using hc
          refine ⟨List.mem_cons_self, ?_⟩
          intro e he hne
          rcases List.mem_cons.mp he with rfl | he
          · exact absurd rfl hne
          · have hle : effectiveLoad s d ≤ effectiveLoad s e := by
              by_cases hed : e = d
              · rw [hed]
              · rcases hmin e he hed with h | ⟨h, _⟩ <;> omega
            by_cases hlt2 : effectiveLoad s a < effectiveLoad s e
            · exact Or.inl hlt2
            · refine Or.inr ⟨by omega, ?_⟩
              rw [List.idxOf_cons_self, List.idxOf_cons_ne _ (Ne.symm hne)]
              omega

end Sys2Proof.Machine
end

