-- ==== Sys2Proof/Laws/Octets.lean ====
section
/-! SUPPORT. Fields of two and four octets, most significant first (R172): what is read back from what was carried. -/

namespace Sys2Proof.Machine

/-- A two-octet field read back from its octets. -/
theorem be16_octets (h : Half) : be16 (hiOctet h) (loOctet h) = h := by
  apply BitVec.eq_of_getLsbD_eq
  intro i hi
  simp only [be16, hiOctet, loOctet, BitVec.getLsbD_append, BitVec.getLsbD_extractLsb']
  by_cases h1 : i < 8
  · simp [h1]
  · have : i - 8 < 8 := by omega
    simp [h1, this]
    congr 1
    omega

/-- A four-octet field read back from its octets. -/
theorem be32_octets (x : Stamp) : be32 (stampOctet x 0) (stampOctet x 1) (stampOctet x 2) (stampOctet x 3) = x := by
  apply BitVec.eq_of_getLsbD_eq
  intro i hi
  simp only [be32, stampOctet, BitVec.getLsbD_append, BitVec.getLsbD_extractLsb']
  by_cases h1 : i < 16
  · by_cases h2 : i < 8
    · simp [h1, h2]
    · have : i - 8 < 8 := by omega
      simp [h1, h2, this]
      congr 1
      omega
  · by_cases h2 : i - 16 < 8
    · simp [h1, h2]
      congr 1
      omega
    · have : i - 16 - 8 < 8 := by omega
      simp [h1, h2, this]
      congr 1
      omega

/-- The first octet of a field made of two. -/
theorem hi_be16 (a b : Byte) : hiOctet (be16 a b) = a := by
  apply BitVec.eq_of_getLsbD_eq
  intro i hi
  simp only [be16, hiOctet, BitVec.getLsbD_append, BitVec.getLsbD_extractLsb', hi]
  have : ¬ (8 + i < 8) := by omega
  simp [this, hi]

/-- The second octet of a field made of two. -/
theorem lo_be16 (a b : Byte) : loOctet (be16 a b) = b := by
  apply BitVec.eq_of_getLsbD_eq
  intro i hi
  simp only [be16, loOctet, BitVec.getLsbD_append, BitVec.getLsbD_extractLsb', hi]
  simp [hi]

/-- The number that a field of two octets holds. -/
theorem be16_toNat (a b : Byte) : (be16 a b).toNat = a.toNat * 256 + b.toNat := by
  have := b.isLt
  have h : (be16 a b).toNat = a.toNat <<< 8 ||| b.toNat := BitVec.toNat_append a b
  rw [h, Nat.shiftLeft_eq, Nat.mul_comm, ← Nat.two_pow_add_eq_or_of_lt this]

/-- The number read back from the two octets that carry it. -/
theorem be16_half (n : Nat) : (be16 (hiOctet (half n)) (loOctet (half n))).toNat = n % 65536 := by
  rw [be16_octets]
  rfl

end Sys2Proof.Machine
end

