-- ==== Sys2Proof/Laws/Steering.lean ====
section
/-! SUPPORT. Steering and what follows it neither read nor change the links, the cells that wait, or the model's own choices:
an update of those fields can be moved past each operation on the path of an EVENT. What taking a cell can change at all. -/

namespace Sys2Proof.Machine

/-- The state with the fields that Steering neither reads nor changes replaced. -/
def State.aside (L : Tab Link 10) (H : Tab (List Arrival) 4) (lt : List Bool)
    (tn : List (List (Fin 4))) (d : Nat) (s : State) : State :=
  { s with links := L, handed := H, late := lt, turns := tn, freeDraws := d }

section

variable (L : Tab Link 10) (H : Tab (List Arrival) 4) (lt : List Bool)
    (tn : List (List (Fin 4))) (d : Nat) (s : State)

/-- The Notice Unit's test. -/
theorem placeNotice_aside : placeNotice (s.aside L H lt tn d) = (placeNotice s).aside L H lt tn d := by
  unfold placeNotice
  by_cases h : s.notices = NoticeSet.none
  · rw [if_pos h, if_pos (show (s.aside L H lt tn d).notices = NoticeSet.none from h)]
  · rw [if_neg h, if_neg (show ¬ (s.aside L H lt tn d).notices = NoticeSet.none from h)]
    cases hl : s.lease with
    | none => rw [show (s.aside L H lt tn d).lease = none from hl]
    | some x =>
      rw [show (s.aside L H lt tn d).lease = some x from hl]
      show (match (s.port x.holder).noticeSlot with | some _ => _ | none => _) =
        State.aside L H lt tn d (match (s.port x.holder).noticeSlot with | some _ => _ | none => _)
      cases (s.port x.holder).noticeSlot <;> rfl

/-- The hold rule. -/
theorem applyHold_aside : applyHold (s.aside L H lt tn d) = (applyHold s).aside L H lt tn d := by
  unfold applyHold
  show (match s.hold with | .released => _ | .asserted => _) =
    State.aside L H lt tn d (match s.hold with | .released => _ | .asserted => _)
  cases s.hold
  · show (if s.freeCount < s.device.low.val then _ else _) =
    State.aside L H lt tn d (if s.freeCount < s.device.low.val then _ else _)
    split <;> rfl
  · show (if s.device.high.val ≤ s.freeCount ∧ s.restart = none then _ else _) =
      State.aside L H lt tn d (if s.device.high.val ≤ s.freeCount ∧ s.restart = none then _ else _)
    split <;> rfl

/-- Writing a log entry. -/
theorem writeEntry_aside (e : LogEntry) : writeEntry e (s.aside L H lt tn d) = (writeEntry e s).aside L H lt tn d := by
  unfold writeEntry
  show (if s.log.length < Config.logCapacity then _ else _) =
    State.aside L H lt tn d (if s.log.length < Config.logCapacity then _ else _)
  split <;> rfl

/-- What an abandonment does before the record is freed. -/
theorem recordAbandon_aside (r : RecIdx) (k : ClassIdx) (why : Reason) :
    recordAbandon r k why (s.aside L H lt tn d) = (recordAbandon r k why s).aside L H lt tn d := by
  unfold recordAbandon
  rw [show logEntryOf (s.aside L H lt tn d) r k why = logEntryOf s r k why from rfl, writeEntry_aside]
  rfl

/-- Setting a pending-record pointer. -/
theorem setPointer_aside (k : ClassIdx) (x : Arrival) (r : RecIdx) :
    setPointer k x r (s.aside L H lt tn d) = (setPointer k x r s).aside L H lt tn d := by
  unfold setPointer
  show (if x.kind = .level ∧ (s.cls k).config.coalesce then _ else _) =
    State.aside L H lt tn d (if x.kind = .level ∧ (s.cls k).config.coalesce then _ else _)
  split <;> rfl

/-- The store tests with what they decide. -/
theorem storeTests_aside (k : ClassIdx) (x : Arrival) :
    storeTests k x (s.aside L H lt tn d) = (storeTests k x s).aside L H lt tn d := by
  have ho : overflow k x (s.aside L H lt tn d) = (overflow k x s).aside L H lt tn d := by
    unfold overflow
    show (match (s.cls k).config.policy with | .refuse => _ | .displace => _) =
      State.aside L H lt tn d (match (s.cls k).config.policy with | .refuse => _ | .displace => _)
    cases (s.cls k).config.policy
    · rfl
    · show (match s.queue k with | [] => _ | r :: rest => _) =
        State.aside L H lt tn d (match s.queue k with | [] => _ | r :: rest => _)
      cases s.queue k with
      | nil => rfl
      | cons r rest =>
        let f : State → State := fun u =>
          ((u.modRec r fun e => fillRecord (e.generation + 1) k x).modQueue k fun _ => rest ++ [r]).modClass k fun c =>
            { c with accepted := satUp c.accepted }
        have hf : ∀ u : State, f (u.aside L H lt tn d) = (f u).aside L H lt tn d := fun _ => rfl
        show setPointer k x r (f (recordAbandon r k .displaced (s.aside L H lt tn d))) =
          State.aside L H lt tn d (setPointer k x r (f (recordAbandon r k .displaced s)))
        rw [recordAbandon_aside, hf, setPointer_aside]
  unfold storeTests
  show (match s.freeList with | [] => _ | r :: rest => _) =
    State.aside L H lt tn d (match s.freeList with | [] => _ | r :: rest => _)
  cases s.freeList with
  | nil => exact ho
  | cons r rest =>
    show (if s.holding k < (s.cls k).config.pendingLimit.val then _ else _) =
      State.aside L H lt tn d (if s.holding k < (s.cls k).config.pendingLimit.val then _ else _)
    split
    · let f : State → State := fun u =>
        (({ u with freeList := rest }.modRec r fun e => fillRecord e.generation k x).modQueue k (· ++ [r])).modClass k
          fun c => { c with pendingCount := c.pendingCount + 1, accepted := satUp c.accepted }
      have hf : f (s.aside L H lt tn d) = (f s).aside L H lt tn d := rfl
      show setPointer k x r (applyHold (f (s.aside L H lt tn d))) =
        State.aside L H lt tn d (setPointer k x r (applyHold (f s)))
      rw [hf, applyHold_aside, setPointer_aside]
    · exact ho

/-- A coalesce claim. -/
theorem coalesce_aside (r : RecIdx) (datum : Half) (stamp : Stamp) :
    coalesce r datum stamp (s.aside L H lt tn d) = (coalesce r datum stamp s).aside L H lt tn d := by
  unfold coalesce
  show (match (s.rcd r).place with | .pending _ => _ | .free => _ | .queued _ _ => _ | .awaiting _ _ _ => _) =
    State.aside L H lt tn d
      (match (s.rcd r).place with | .pending _ => _ | .free => _ | .queued _ _ => _ | .awaiting _ _ _ => _)
  cases (s.rcd r).place
  case pending k =>
    show (if (s.rcd r).neverDispatched = true ∧ (s.rcd r).kind = .level then _ else _) =
      State.aside L H lt tn d (if (s.rcd r).neverDispatched = true ∧ (s.rcd r).kind = .level then _ else _)
    split <;> rfl
  all_goals rfl

/-- A LEVEL report. -/
theorem levelReport_aside (k : ClassIdx) (x : Arrival) :
    levelReport k x (s.aside L H lt tn d) = (levelReport k x s).aside L H lt tn d := by
  have he : reportEntry (s.aside L H lt tn d) k x.addr (levelOf x.datum) = reportEntry s k x.addr (levelOf x.datum) := rfl
  unfold levelReport
  rw [he]
  generalize reportEntry s k x.addr (levelOf x.datum) = out
  show (match verdictOf out.1 out.2 with | .suppressed => _ | .coalesced r => _ | .confirmed => _) =
    State.aside L H lt tn d (match verdictOf out.1 out.2 with | .suppressed => _ | .coalesced r => _ | .confirmed => _)
  cases verdictOf out.1 out.2 with
  | suppressed => rfl
  | coalesced r =>
    exact congrArg (fun u : State => u.modClass k fun c => { c with coalesced := satUp c.coalesced })
      (coalesce_aside L H lt tn d (s.modLevel x.addr fun _ => out.1) r x.datum x.stamp)
  | confirmed => exact storeTests_aside L H lt tn d (s.modLevel x.addr fun _ => out.1) k x

/-- Steering neither reads nor changes the links, the cells that wait, or the model's own choices. -/
theorem takeArrival_aside (x : Arrival) : takeArrival (s.aside L H lt tn d) x = (takeArrival s x).aside L H lt tn d := by
  have hs : steer x (s.aside L H lt tn d) = (steer x s).aside L H lt tn d := by
    unfold steer
    show (match classify s.steering x.addr x.kind with | none => _ | some k => _) =
      State.aside L H lt tn d (match classify s.steering x.addr x.kind with | none => _ | some k => _)
    cases classify s.steering x.addr x.kind with
    | none => rfl
    | some k =>
      show takeClassified k x (s.aside L H lt tn d) = (takeClassified k x s).aside L H lt tn d
      unfold takeClassified
      show (match (s.cls k).state with | .disabled => _ | .draining => _ | .enabled => _) =
        State.aside L H lt tn d (match (s.cls k).state with | .disabled => _ | .draining => _ | .enabled => _)
      cases (s.cls k).state
      case enabled =>
        cases x.kind
        case level => exact levelReport_aside L H lt tn d s k x
        all_goals exact storeTests_aside L H lt tn d s k x
      all_goals rfl
  unfold takeArrival
  rw [hs, placeNotice_aside]

/-- So do several cells taken one after another. -/
theorem takeArrivals_aside (xs : List Arrival) :
    xs.foldl takeArrival (s.aside L H lt tn d) = (xs.foldl takeArrival s).aside L H lt tn d := by
  induction xs generalizing s with
  | nil => rfl
  | cons x xs ih =>
    rw [List.foldl_cons, takeArrival_aside, ih, List.foldl_cons]

end

/-- The cells that wait on every link, taken together. -/
theorem catchUpAll_eq (s : State) :
    catchUpAll s =
      ((inTurn (s.turns.headD []) s.handed).foldl takeArrival s).aside s.links (Tab.all 4 []) s.late s.turns.tail
        s.freeDraws :=
  takeArrivals_aside s.links (Tab.all 4 []) s.late s.turns.tail s.freeDraws s _


/-! ## What taking a cell can change -/

/-- From `s` to `t` only what Steering and Admission may change has changed: of the classes neither a configuration nor a
state, of the ports the notice slots alone. -/
structure Steered (s t : State) : Prop where
  frame : t = { s with
    unmatched := t.unmatched, lastUnmatched := t.lastUnmatched, hold := t.hold, levels := t.levels
    records := t.records, freeList := t.freeList, queues := t.queues, classes := t.classes, ports := t.ports
    log := t.log, overwrites := t.overwrites, nextEntry := t.nextEntry, notices := t.notices }
  classes : ∀ k, (t.cls k).config = (s.cls k).config ∧ (t.cls k).state = (s.cls k).state
  ports : SamePorts s t

theorem Steered.refl (s : State) : Steered s s := ⟨rfl, fun _ => ⟨rfl, rfl⟩, fun _ => rfl⟩

theorem Steered.trans {s u t : State} (h : Steered s u) (g : Steered u t) : Steered s t where
  frame := by
    have a := h.frame
    have b := g.frame
    cases s
    cases u
    cases t
    simp only [State.mk.injEq] at a b ⊢
    simp [*]
  classes k := ⟨(g.classes k).1.trans (h.classes k).1, (g.classes k).2.trans (h.classes k).2⟩
  ports d := by
    have a := g.ports d
    rw [h.ports d] at a
    exact a

/-- A class record changed in its counts alone. -/
theorem steered_modClass (s : State) (k : ClassIdx) {f : ClassRecord → ClassRecord}
    (hf : ∀ x, (f x).config = x.config ∧ (f x).state = x.state) : Steered s (s.modClass k f) where
  frame := rfl
  classes j := by
    have e : (s.modClass k f).cls j = if j = k then f (s.cls j) else s.cls j := Tab.nth_upd _ _ _ _
    rw [e]
    split
    · exact hf _
    · exact ⟨rfl, rfl⟩
  ports _ := rfl

theorem steered_placeNotice (s : State) : Steered s (placeNotice s) where
  frame := by
    have h := placeNotice_frame s
    generalize placeNotice s = t at h ⊢
    rw [h]
  classes k := by
    rw [placeNotice_frame s]
    exact ⟨rfl, rfl⟩
  ports := placeNotice_port s

theorem steered_applyHold (s : State) : Steered s (applyHold s) := by
  rw [applyHold_frame s]
  exact ⟨rfl, fun _ => ⟨rfl, rfl⟩, fun _ => rfl⟩

theorem steered_modRec (s : State) (r : RecIdx) (f : EventRecord → EventRecord) : Steered s (s.modRec r f) :=
  ⟨rfl, fun _ => ⟨rfl, rfl⟩, fun _ => rfl⟩

theorem steered_modQueue (s : State) (k : ClassIdx) (f : List RecIdx → List RecIdx) : Steered s (s.modQueue k f) :=
  ⟨rfl, fun _ => ⟨rfl, rfl⟩, fun _ => rfl⟩

theorem steered_modLevel (s : State) (a : Addr) (f : LevelEntry → LevelEntry) : Steered s (s.modLevel a f) :=
  ⟨rfl, fun _ => ⟨rfl, rfl⟩, fun _ => rfl⟩

theorem steered_recordAbandon (r : RecIdx) (k : ClassIdx) (why : Reason) (s : State) :
    Steered s (recordAbandon r k why s) := by
  have hw : Steered s (writeEntry (logEntryOf s r k why) s) := by
    rw [writeEntry_frame]
    exact ⟨rfl, fun _ => ⟨rfl, rfl⟩, fun _ => rfl⟩
  have hc : ∀ u : State, Steered u (clearPointer r u) := fun u => steered_modLevel u _ _
  have ha : ∀ u : State, Steered u (raiseAbandon u) := fun _ => ⟨rfl, fun _ => ⟨rfl, rfl⟩, fun _ => rfl⟩
  unfold recordAbandon
  refine Steered.trans ?_ (hc _)
  exact (hw.trans (ha _)).trans (steered_modClass _ k fun _ => ⟨rfl, rfl⟩)

theorem steered_setPointer (k : ClassIdx) (x : Arrival) (r : RecIdx) (s : State) : Steered s (setPointer k x r s) := by
  unfold setPointer
  split
  · exact ⟨rfl, fun _ => ⟨rfl, rfl⟩, fun _ => rfl⟩
  · exact Steered.refl s

theorem steered_storeTests (k : ClassIdx) (x : Arrival) (s : State) : Steered s (storeTests k x s) := by
  have hr : Steered s (refuse k s) := steered_modClass s k fun _ => ⟨rfl, rfl⟩
  have ho : Steered s (overflow k x s) := by
    unfold overflow
    split
    · exact hr
    · split
      · exact hr
      · rename_i r rest _
        refine (steered_recordAbandon r k .displaced s).trans (Steered.trans ?_ (steered_setPointer k x r _))
        exact ((steered_modRec _ r _).trans (steered_modQueue _ k _)).trans (steered_modClass _ k fun _ => ⟨rfl, rfl⟩)
  unfold storeTests
  split
  · exact ho
  · rename_i r rest _
    split
    · refine Steered.trans ?_ ((steered_applyHold _).trans (steered_setPointer k x r _))
      have hl : Steered s { s with freeList := rest } := ⟨rfl, fun _ => ⟨rfl, rfl⟩, fun _ => rfl⟩
      exact ((hl.trans (steered_modRec _ r _)).trans (steered_modQueue _ k _)).trans
        (steered_modClass _ k fun _ => ⟨rfl, rfl⟩)
    · exact ho

theorem steered_coalesce (r : RecIdx) (datum : Half) (stamp : Stamp) (s : State) :
    Steered s (coalesce r datum stamp s) := by
  unfold coalesce
  split
  · split
    · exact steered_modRec s _ _
    · exact Steered.refl s
  all_goals exact Steered.refl s

theorem steered_levelReport (k : ClassIdx) (x : Arrival) (s : State) : Steered s (levelReport k x s) := by
  refine (steered_modLevel s x.addr fun _ => (reportEntry s k x.addr (levelOf x.datum)).1).trans ?_
  unfold levelReport
  dsimp only
  split
  · exact Steered.refl _
  · exact (steered_coalesce _ _ _ _).trans (steered_modClass _ k fun _ => ⟨rfl, rfl⟩)
  · exact steered_storeTests k x _

/-- All that Steering and Admission can change as a cell is taken. -/
theorem steered_takeArrival (s : State) (x : Arrival) : Steered s (takeArrival s x) := by
  refine Steered.trans ?_ (steered_placeNotice _)
  have hr : ∀ k, Steered s (refuse k s) := fun k => steered_modClass s k fun _ => ⟨rfl, rfl⟩
  unfold steer
  split
  · exact ⟨rfl, fun _ => ⟨rfl, rfl⟩, fun _ => rfl⟩
  · unfold takeClassified
    split
    · exact hr _
    · exact hr _
    · split
      · exact steered_levelReport _ x s
      · exact steered_storeTests _ x s
      · exact steered_storeTests _ x s

/-- The same of several cells taken one after another. -/
theorem steered_takeArrivals (s : State) (xs : List Arrival) : Steered s (xs.foldl takeArrival s) := by
  induction xs generalizing s with
  | nil => exact Steered.refl s
  | cons x xs ih => exact (steered_takeArrival s x).trans (ih _)

end Sys2Proof.Machine
end

