-- ==== Sys2Proof/Tests/Slice0.lean ====
section
/-! SUPPORT. The model's own tests: the checks of WellFormed refuse what they should, cells written out from the layouts of
sections 11.7 and 11.8 decode to their commands, single commands on small states, and for every claim with hypotheses a
witness that meets them all, at the boundary values of each clause. -/

namespace Sys2Proof.Tests

open Sys2Proof.Machine

/-! ## Well-formed commands -/

theorem test_pulse_range :
    wellFormed (.event 0 0 0 .pulse 0) = false ∧ wellFormed (.event 0 0 0 .pulse 256) = false ∧
      wellFormed (.event 0 0 0 .pulse 1) = true ∧ wellFormed (.event 0 0 0 .pulse 255) = true := by decide

theorem test_level_range :
    wellFormed (.event 0 0 0 .level 2) = false ∧ wellFormed (.event 0 0 0 .level 1) = true ∧
      wellFormed (.event 0 0 0 .value 65535) = true := by decide

theorem test_tag_count :
    wellFormed (.ack 0 []) = false ∧ wellFormed (.ack 0 [⟨0, 0⟩]) = true ∧
      wellFormed (.ack 0 [⟨0, 0⟩, ⟨1, 0⟩, ⟨2, 0⟩, ⟨3, 0⟩]) = true ∧
      wellFormed (.ack 0 [⟨0, 0⟩, ⟨1, 0⟩, ⟨2, 0⟩, ⟨3, 0⟩, ⟨4, 0⟩]) = false := by decide

theorem test_named_op :
    wellFormed (.badOp 0 0 1) = false ∧ wellFormed (.badOp 0 0 14) = false ∧ wellFormed (.badOp 0 0 0) = true ∧
      wellFormed (.badOp 0 0 15) = true := by decide

theorem test_writable_table :
    wellFormed (.write 0 0 1 0 0 Page.zero) = false ∧ wellFormed (.write 0 0 5 0 0 Page.zero) = false ∧
      wellFormed (.write 0 0 0 0 0 Page.zero) = true ∧ wellFormed (.write 0 0 6 0 0 Page.zero) = true := by decide

/-! ## Cells, octet by octet -/

/-- Cells of a source link, and the cells that fail. -/
theorem test_source_cells :
    (decodeCell (.source 0) ⟨0x00, 0, 0, 0, 0, 0, 0, 0, 0, 0, 0, 0, 0, 0, 0, 0x90⟩ = .idle (.source 0)) ∧
    (decodeCell (.source 2) ⟨0x11, 0x03, 0x05, 0x03, 0x12, 0x34, 0, 0, 0, 0, 0, 0, 0, 0, 0, 0x9E⟩ =
       .event 2 3 5 .value 0x1234) ∧
    (decodeCell (.source 2) ⟨0x11, 0x03, 0x05, 0x01, 0, 0, 0, 0, 0, 0, 0, 0, 0, 0, 0, 0xFB⟩ = .malformedCell (.source 2) ∧
       decodeCell (.source 2) ⟨0x11, 0x10, 0x05, 0x03, 0, 0, 0, 0, 0, 0, 0, 0, 0, 0, 0, 0x13⟩ =
         .malformedCell (.source 2)) ∧
    (decodeCell (.source 0) ⟨0x00, 0, 0, 0, 0, 0, 0, 0, 0, 0, 0, 0, 0, 0, 0, 0x91⟩ = .badCell (.source 0) ∧
       decodeCell (.source 0) ⟨0x41, 0, 0, 0, 0, 0, 0, 0, 0, 0, 0, 0, 0, 0, 0, 0xA6⟩ = .malformedCell (.source 0)) ∧
    (OutCell.go.cell = ⟨0x13, 0, 0, 0, 0, 0, 0, 0, 0, 0, 0, 0, 0, 0, 0, 0x29⟩ ∧
       OutCell.hold.cell = ⟨0x12, 0, 0, 0, 0, 0, 0, 0, 0, 0, 0, 0, 0, 0, 0, 0x9C⟩) := by
  decide +kernel

/-- Cells of a consumer link. -/
theorem test_consumer_cells :
    (decodeCell (.consumer 4) ⟨0x31, 0x02, 0x0A, 0x03, 0x01, 0xFF, 0, 0, 0, 0, 0, 0, 0, 0, 0, 0x0D⟩ =
       .ack 4 [⟨3, 5⟩, ⟨511, 0⟩]) ∧
    (decodeCell (.consumer 4) ⟨0x31, 0x05, 0, 0, 0, 0, 0, 0, 0, 0, 0, 0, 0, 0, 0, 0xFE⟩ = .malformedCell (.consumer 4) ∧
       decodeCell (.consumer 4) ⟨0x31, 0x01, 0x10, 0x00, 0, 0, 0, 0, 0, 0, 0, 0, 0, 0, 0, 0x1C⟩ =
         .malformedCell (.consumer 4)) ∧
    (decodeCell (.consumer 1) ⟨0x32, 0x0A, 0x03, 0x01, 0, 0, 0, 0, 0, 0, 0, 0, 0, 0, 0, 0x48⟩ = .nackBusy 1 ⟨3, 5⟩ ∧
       decodeCell (.consumer 1) ⟨0x32, 0x0A, 0x03, 0x02, 0, 0, 0, 0, 0, 0, 0, 0, 0, 0, 0, 0xAF⟩ = .nackReject 1 ⟨3, 5⟩ ∧
       decodeCell (.consumer 1) ⟨0x32, 0x0A, 0x03, 0x03, 0, 0, 0, 0, 0, 0, 0, 0, 0, 0, 0, 0xF2⟩ =
         .malformedCell (.consumer 1)) ∧
    (decodeCell (.consumer 5) ⟨0x33, 0x0F, 0, 0, 0, 0, 0, 0, 0, 0, 0, 0, 0, 0, 0, 0x63⟩ = .load 5 15 ∧
       decodeCell (.consumer 5) ⟨0x33, 0x10, 0, 0, 0, 0, 0, 0, 0, 0, 0, 0, 0, 0, 0, 0x91⟩ = .malformedCell (.consumer 5)) ∧
    (decodeCell (.consumer 0) ⟨0x34, 0x2A, 0x04, 0x04, 0, 0x1F, 0, 1, 2, 3, 4, 5, 6, 2, 0, 0x43⟩ =
         .writeClass 0 0x2A 31 0 ⟨1, 2, 3, 4, 5, 6, 2, 0⟩ ∧
       decodeCell (.consumer 0) ⟨0x34, 0x2A, 0x0A, 0, 0, 0, 0, 1, 2, 3, 4, 0, 0, 0, 0, 0x20⟩ =
         .setTime 0 0x2A 0x01020304 ∧
       decodeCell (.consumer 0) ⟨0x34, 0x2A, 0x0F, 0, 0, 0, 0, 0, 0, 0, 0, 0, 0, 0, 0, 0xB4⟩ = .badOp 0 0x2A 0x0F) := by
  decide +kernel

/-- A symbol that decodes to no octet makes its cell a bad cell, whatever the other octets. -/
theorem test_symbols :
    decodeSymbols (.source 2) (⟨0x11, 0x03, 0x05, 0x03, 0x12, 0x34, 0, 0, 0, 0, 0, 0, 0, 0, 0, 0x9E⟩ : Cell).symbols =
        .event 2 3 5 .value 0x1234 ∧
      decodeSymbols (.source 2)
          (Tab.put (⟨0x11, 0x03, 0x05, 0x03, 0x12, 0x34, 0, 0, 0, 0, 0, 0, 0, 0, 0, 0x9E⟩ : Cell).symbols 14 none) =
        .badCell (.source 2) := by
  decide +kernel

/-! ## Small states -/

/-- A link in UP. -/
def upLink : Link := { Link.por with state := .up, signal := true, wire := .sending .idle }

/-- A PENDING, never-dispatched LEVEL record of class 1. -/
def waitingRec : EventRecord := { EventRecord.por with place := .pending 1, kind := .level, datum := 1, neverDispatched := true }

/-- A record of class 1 QUEUED at consumer 0. -/
def queuedRec : EventRecord := { EventRecord.por with place := .queued 1 0, datum := 5, delivery := 1 }

/-- A record of class 1 AWAITING at consumer 0, its deadline run out. -/
def awaitingRec : EventRecord := { EventRecord.por with place := .awaiting 1 0 0, datum := 6, delivery := 1 }

/-- The DELIVER of record 1. -/
def deliverOne : Deliver := ⟨⟨1, 0⟩, 1, 1, ⟨0, 0, 0⟩, .pulse, 5, 0, 0⟩

/-- The class record of class 1: ENABLED, one record pending and two dispatched. -/
def classOne : ClassRecord :=
  { ClassRecord.por with
    config := { ClassConfig.por with group := 3 }, state := .enabled, pendingCount := 1, dispatchedCount := 2 }

/-- The port of consumer 0: ACTIVE, one record queued and one awaiting. -/
def portZero : Port :=
  { Port.por with state := .active, load := 0, dispatched := 2, tx := [deliverOne], waitingAck := [2] }

/-- The port of consumer 1: ACTIVE with nothing dispatched. -/
def portOne : Port := { Port.por with state := .active, load := 0 }

/-- The part at work: every link UP, one class in use with a record in each state, and consumer 0 holding the lease. -/
def busy : State :=
  { State.reset with
    links := Tab.all 10 upLink
    records := Tab.put (Tab.put (Tab.put State.reset.records 0 waitingRec) 1 queuedRec) 2 awaitingRec
    freeList := allRecords.filter fun r => decide (3 ≤ r.val)
    queues := Tab.put State.reset.queues 1 [0]
    classes := Tab.put State.reset.classes 1 classOne
    ports := Tab.put (Tab.put State.reset.ports 0 portZero) 1 portOne
    bankA := Tab.put State.reset.bankA 0 ⟨true, 15, 0, 15, 0, 63, 7, 1⟩
    lease := some ⟨0, 500⟩ }

/-- The part at work with class 1 changed. -/
def withClass (f : ClassRecord → ClassRecord) : State := busy.modClass 1 f

/-- The part at work with a link changed. -/
def withLink (l : LinkId) (f : Link → Link) : State := busy.modLink l f

/-- The part at work with the port of consumer 0 changed. -/
def withPort (f : Port → Port) : State := busy.modPort 0 f

/-- The part at work with coalescing on in class 1 and record 0 the waiting record of its channel, last confirmed at 1. -/
def coalescing : State :=
  (withClass fun x => { x with config := { x.config with coalesce := true } }).modLevel ⟨0, 0, 0⟩ fun e =>
    { e with confirmed := some 1, pendingRec := some 0 }

/-- The part at work during a restart that keeps the configuration. -/
def restarting : State := { busy with restart := some ⟨0, 9, true⟩ }

/-- The part at work with the frozen flag set. -/
def frozenBusy : State := { busy with frozen := true }

/-- The state after a command. -/
def after (i : Instr) (s : State) : State :=
  match exec i s with
  | .next t => t
  | .fault _ => s
  | .refused _ => s

/-- The response waiting at a consumer after a command. -/
def answerOf (c : ConsumerIdx) (i : Instr) (s : State) : Option (Status × Page) :=
  ((after i s).port c).responseSlot.map fun r => (r.status, r.data)

/-! ## Single commands -/

/-- POR, RESET_RELEASE, SIGNAL_PRESENT, LOSS_OF_SIGNAL, GOOD_CELL_ALIGNING, BAD_CELL, MALFORMED_CELL, IDLE. -/
theorem test_reset_and_links :
    ((after .por busy).freeCount = 512 ∧ (after .por busy).lease = none) ∧
    ((after .resetRelease State.inPor).resetAsserted = false) ∧
    (((after (.signalPresent (.source 3)) State.reset).link (.source 3)).state = .aligning) ∧
    ((after (.lossOfSignal (.consumer 0)) busy).queue 1 = [2, 1, 0] ∧ (after (.lossOfSignal (.consumer 0)) busy).lease = none) ∧
    (((after (.goodCellAligning (.consumer 2))
       (withLink (.consumer 2) fun x => { x with state := .aligning, alignCount := 15 })).link (.consumer 2)).state = .up) ∧
    (((after (.badCell (.source 1)) (withLink (.source 1) fun x => { x with badRun := 3 })).link (.source 1)).state =
       .aligning) ∧
    ((after (.malformedCell (.source 1)) busy).malformedTotal = 1 ∧
       (after (.malformedCell (.source 1)) busy).link (.source 1) = { upLink with malformed := 1 }) ∧
    ((after (.idle (.source 1)) (withLink (.source 1) fun x => { x with badRun := 2 })).link (.source 1) = upLink) := by
  decide +kernel

/-- A LEVEL cell that Steering takes at once meets the entry before the loss resets it; one that waits meets it reset. A
soft restart finds one that waits taken first: record 3, which it takes, is freed with its generation advanced. The links
come in the sender's turn. -/
theorem test_waiting_cell :
    ((after (.lossOfSignal (.source 0)) (after (.event 0 0 0 .level 1) busy)).level ⟨0, 0, 0⟩).confirmed = none ∧
      ((after (.lossOfSignal (.source 0)) (after (.event 0 0 0 .level 1) { busy with late := [true] })).level
        ⟨0, 0, 0⟩).confirmed = some 1 ∧
      Tab.nth (after (.event 0 0 0 .level 1) { busy with late := [true] }).handed 0 = [⟨⟨0, 0, 0⟩, .level, 1, 0⟩] ∧
      (Tab.nth (after (.restart 0 1 1) (after (.event 0 0 0 .level 1) { busy with late := [true] })).handed 0 = [] ∧
        ((after (.restart 0 1 1) (after (.event 0 0 0 .level 1) { busy with late := [true] })).rcd 3).generation = 1 ∧
        ((after (.restart 0 1 1) busy).rcd 3).generation = 0) ∧
      (inTurn [3] (Tab.put (Tab.put (Tab.all 4 []) 0 [⟨⟨0, 0, 0⟩, .level, 1, 0⟩]) 3 [⟨⟨3, 1, 1⟩, .pulse, 1, 0⟩])).map
        (·.addr.link) = [3, 0] := by
  decide +kernel

/-- EVENT, ACK, NACK_BUSY, NACK_REJECT, LOAD, EXPIRY. -/
theorem test_events_and_settlement :
    ((after (.event 0 0 0 .pulse 9) busy).queue 1 = [0, 3] ∧
       ((after (.event 0 0 0 .pulse 9) busy).cls 1).accepted = 1) ∧
    (((after (.event 0 0 0 .level 0) coalescing).rcd 0).datum = 0 ∧
       ((after (.event 0 0 0 .level 0) coalescing).rcd 0).superseded = 1) ∧
    ((after (.ack 0 [⟨2, 0⟩, ⟨1, 0⟩]) busy).freeCount = 511) ∧
    ((after (.nackBusy 0 ⟨1, 0⟩) busy).queue 1 = [1, 0] ∧ ((after (.nackBusy 0 ⟨1, 0⟩) busy).rcd 1).failed = 1) ∧
    ((after (.nackReject 0 ⟨1, 0⟩) busy).log.map (·.reason) = [.rejected] ∧
       ((after (.nackReject 0 ⟨1, 0⟩) busy).port 0).noticeSlot = some ⟨true, 1, 0, 0, false⟩) ∧
    (((after (.load 1 7) busy).port 1).load = 7) ∧
    ((after (.expiry 2) busy).queue 1 = [2, 0] ∧ ((after (.expiry 2) busy).port 0).consecutive = 1) := by
  decide +kernel

/-- GRANT, CELL_SLOT, SEND_COMPLETION. -/
theorem test_dispatch :
    (((after .grant busy).rcd 0).place = .queued 1 1 ∧ (after .grant busy).grantOrder = [0, 2, 3, 4, 5, 1]) ∧
    (((after (.cellSlot (.consumer 0)) busy).link (.consumer 0)).wire = .sending (.deliver deliverOne) ∧
       ((after (.cellSlot (.source 0)) busy).link (.source 0)).wire = .sending .go) ∧
    (((after (.sendCompletion 0) (after (.cellSlot (.consumer 0)) busy)).rcd 1).place = .awaiting 1 0 1000 ∧
       ((after (.sendCompletion 0) (after (.cellSlot (.consumer 0)) busy)).port 0).waitingAck = [2, 1]) := by
  decide +kernel

/-- LEASE_TIMER_EXPIRY, BAD_OP, CLAIM, RELEASE. -/
theorem test_lease :
    ((after .leaseTimerExpiry { busy with lease := some ⟨0, 0⟩ }).lease = none ∧
       (after .leaseTimerExpiry busy).lease = some ⟨0, 500⟩) ∧
    (answerOf 3 (.badOp 3 1 15) busy = some (.badOp, Page.zero)) ∧
    (answerOf 1 (.claim 1 7) busy = some (.held, Page.zero) ∧
       answerOf 1 (.claim 1 7) { busy with lease := none } = some (.ok, { Page.zero with o0 := 1, o1 := 50 })) ∧
    ((after (.release 0 1) busy).lease = none) := by
  decide +kernel

/-- READ and every WRITE. -/
theorem test_tables :
    (answerOf 5 (.read 5 1 9 1 0) busy = some (.ok, ⟨2, 0, 1, 0, 0, 1, 0, 5⟩) ∧
       answerOf 5 (.read 5 1 9 512 0) busy = some (.badIndex, Page.zero)) ∧
    (answerOf 0 (.write 0 1 6 0 0 Page.zero) busy = some (.readOnly, Page.zero) ∧
       answerOf 0 (.write 0 1 12 0 0 Page.zero) busy = some (.badTable, Page.zero)) ∧
    ((after (.writeDevice 0 1 0 0 ⟨10, 8, 1, 0xFF, 0, 0, 0, 0⟩) busy).device = ⟨10, 8, 511⟩) ∧
    ((Tab.nth (after (.writeSteering 0 1 .b 63 0 ⟨1, 1, 0, 0, 0, 0, 1, 31⟩) busy).bankB 63).cls = 31 ∧
       answerOf 0 (.writeSteering 0 1 .a 63 0 ⟨1, 1, 0, 0, 0, 0, 1, 31⟩) busy = some (.bankActive, Page.zero)) ∧
    (((after (.writeClass 0 1 2 0 ⟨3, 15, 2, 1, 7, 4, 2, 0⟩) busy).cls 2).config =
         ⟨3, .primary, .serial, 2, 1, 7, 4, true, .displace, 512⟩ ∧
       answerOf 0 (.writeClass 0 1 1 0 ⟨3, 15, 2, 1, 7, 4, 2, 0⟩) busy = some (.inUse, Page.zero)) ∧
    (((after (.writeConsumer 0 1 5 0 ⟨8, 15, 0, 0, 0, 0, 0, 0⟩) busy).port 5).window = 8 ∧
       answerOf 0 (.writeConsumer 0 1 5 0 ⟨9, 15, 0, 0, 0, 0, 0, 0⟩) busy = some (.badValue, Page.zero)) := by
  decide +kernel

/-- SWAP, CLASS_ENABLE, CLASS_DISABLE, CONSUMER_ENABLE, CONSUMER_DISABLE. -/
theorem test_service :
    ((after (.swap 0 1) busy).activeBank = .b) ∧
    (answerOf 0 (.classEnable 0 1 2) busy = some (.badValue, Page.zero) ∧
       answerOf 0 (.classEnable 0 1 1) busy = some (.ok, { Page.zero with o0 := 1 })) ∧
    (answerOf 0 (.classDisable 0 1 1 1) busy = some (.ok, { Page.zero with o0 := 2, o2 := 1 }) ∧
       (after (.classDisable 0 1 1 1) busy).queue 1 = []) ∧
    (answerOf 0 (.consumerEnable 0 1 5) busy = some (.ok, { Page.zero with o0 := 2 })) ∧
    (answerOf 0 (.consumerDisable 0 1 0) busy = some (.ok, { Page.zero with o1 := 2 }) ∧
       (after (.consumerDisable 0 1 0) busy).queue 1 = [2, 1, 0]) := by
  decide +kernel

/-- SET_TIME, TAKE_LOG, CLEAR_COUNTS, FREEZE, RESTART, END_OF_RESTART, TIMEBASE_COUNT. -/
theorem test_time_log_and_restart :
    ((after (.setTime 0 1 0xFFFFFFFF) busy).timebase = 0xFFFFFFFF) ∧
    (answerOf 0 (.takeLog 0 1 0 2) busy = some (.empty, Page.zero)) ∧
    (((after (.clearCounts 0 1) (withClass fun x => { x with accepted := 3 })).cls 1).accepted = 0) ∧
    ((after (.freeze 0 1) busy).frozen = true) ∧
    (((after (.restart 0 1 1) busy).cls 1).state = .enabled ∧ ((after (.restart 0 1 1) busy).rcd 1).generation = 1) ∧
    ((after .endOfRestart restarting).restart = none ∧
       answerOf 0 .endOfRestart restarting = some (.ok, { Page.zero with o2 := 1 })) ∧
    ((after .timebaseCount busy).timebase = 1 ∧ (after .timebaseCount busy).lease = some ⟨0, 499⟩) := by
  decide +kernel

/-! ## The part at work meets every law -/

theorem busy_rcd (r : RecIdx) :
    busy.rcd r =
      if r = 2 then awaitingRec else if r = 1 then queuedRec else if r = 0 then waitingRec else EventRecord.por := by
  show Tab.nth (Tab.put (Tab.put (Tab.put State.reset.records 0 waitingRec) 1 queuedRec) 2 awaitingRec) r = _
  rw [Tab.nth_put, Tab.nth_put, Tab.nth_put]
  exact congrArg _ (congrArg _ (congrArg _ (Tab.nth_all _ _)))

theorem busy_queue (k : ClassIdx) : busy.queue k = if k = 1 then [0] else [] := by
  show Tab.nth (Tab.put State.reset.queues 1 [0]) k = _
  rw [Tab.nth_put]
  exact congrArg _ (Tab.nth_all _ _)

theorem busy_port (c : ConsumerIdx) : busy.port c = if c = 1 then portOne else if c = 0 then portZero else Port.por := by
  show Tab.nth (Tab.put (Tab.put State.reset.ports 0 portZero) 1 portOne) c = _
  rw [Tab.nth_put, Tab.nth_put]
  exact congrArg _ (congrArg _ (Tab.nth_all _ _))

theorem busy_cls (k : ClassIdx) : busy.cls k = if k = 1 then classOne else ClassRecord.por := by
  show Tab.nth (Tab.put State.reset.classes 1 classOne) k = _
  rw [Tab.nth_put]
  exact congrArg _ (Tab.nth_all _ _)

theorem busy_link (l : LinkId) : busy.link l = upLink := Tab.nth_all _ _

theorem busy_level (i : Fin 4096) : Tab.nth busy.levels i = LevelEntry.por := Tab.nth_all _ _

theorem busy_freeList : busy.freeList = (List.finRange 512).filter fun r => decide (3 ≤ r.val) := by
  simp only [busy, allRecords]

theorem mem_freeList (r : RecIdx) : r ∈ busy.freeList ↔ 3 ≤ r.val := by
  rw [busy_freeList, List.mem_filter, decide_eq_true_iff]
  exact ⟨fun h => h.2, fun h => ⟨List.mem_finRange r, h⟩⟩

theorem busy_place (r : RecIdx) :
    (busy.rcd r).place = if r = 2 then .awaiting 1 0 0 else if r = 1 then .queued 1 0 else if r = 0 then .pending 1 else .free := by
  rw [busy_rcd]
  split
  · rfl
  · split
    · rfl
    · split <;> rfl

theorem busy_placed : Placed busy where
  free r := by
    rw [mem_freeList, busy_place]
    by_cases h2 : r = 2
    · simp [h2]
    · by_cases h1 : r = 1
      · simp [h1]
      · by_cases h0 : r = 0
        · simp [h0]
        · have a2 : r.val ≠ 2 := fun e => h2 (Fin.ext e)
          have a1 : r.val ≠ 1 := fun e => h1 (Fin.ext e)
          have a0 : r.val ≠ 0 := fun e => h0 (Fin.ext e)
          simp only [h2, h1, h0, if_false, true_iff]
          omega
  pending r k := by
    rw [busy_queue, busy_place]
    by_cases h2 : r = 2
    · by_cases hk : k = 1 <;> simp [h2, hk]
    · by_cases h1 : r = 1
      · by_cases hk : k = 1 <;> simp [h1, hk]
      · by_cases h0 : r = 0
        · by_cases hk : k = 1
          · simp [h0, hk]
          · simp [h0, hk, Ne.symm hk]
        · by_cases hk : k = 1 <;> simp [h2, h1, h0, hk]
  queued r c := by
    rw [busy_port, busy_place]
    by_cases hc0 : c = 0
    · subst hc0
      by_cases h2 : r = 2
      · simp [h2, portZero, deliverOne]
      · by_cases h1 : r = 1
        · simp [h1, portZero, deliverOne]
        · by_cases h0 : r = 0 <;> simp [h2, h1, h0, portZero, deliverOne]
    · have hp : (if c = 1 then portOne else if c = 0 then portZero else Port.por).tx = [] := by
        rw [if_neg hc0]
        split <;> rfl
      rw [hp]
      by_cases h2 : r = 2
      · simp [h2]
      · by_cases h1 : r = 1
        · simp [h1, Ne.symm hc0]
        · by_cases h0 : r = 0 <;> simp [h2, h1, h0]
  awaiting r c := by
    rw [busy_port, busy_place]
    by_cases hc0 : c = 0
    · subst hc0
      by_cases h2 : r = 2
      · simp [h2, portZero]
      · by_cases h1 : r = 1
        · simp [h1, portZero]
        · by_cases h0 : r = 0 <;> simp [h2, h1, h0, portZero]
    · have hp : (if c = 1 then portOne else if c = 0 then portZero else Port.por).waitingAck = [] := by
        rw [if_neg hc0]
        split <;> rfl
      rw [hp]
      by_cases h2 : r = 2
      · simp [h2, Ne.symm hc0]
      · by_cases h1 : r = 1
        · simp [h1]
        · by_cases h0 : r = 0 <;> simp [h2, h1, h0]
  freeOnce := by
    rw [busy_freeList]
    exact (List.nodup_finRange 512).filter _
  queueOnce k := by
    rw [busy_queue]
    split <;> simp
  txOnce c := by
    rw [busy_port]
    split
    · simp [portOne, Port.por]
    · split <;> simp [portZero, Port.por]
  awaitingOnce c := by
    rw [busy_port]
    split
    · simp [portOne, Port.por]
    · split <;> simp [portZero, Port.por]

theorem placed_modLink {s : State} (h : Placed s) (l : LinkId) (f : Link → Link) : Placed (s.modLink l f) :=
  ⟨h.free, h.pending, h.queued, h.awaiting, h.freeOnce, h.queueOnce, h.txOnce, h.awaitingOnce⟩

theorem placed_modClass {s : State} (h : Placed s) (k : ClassIdx) (f : ClassRecord → ClassRecord) :
    Placed (s.modClass k f) :=
  ⟨h.free, h.pending, h.queued, h.awaiting, h.freeOnce, h.queueOnce, h.txOnce, h.awaitingOnce⟩

theorem counted_modClass {s : State} (h : Counted s) (k : ClassIdx) {f : ClassRecord → ClassRecord}
    (hp : ∀ x, (f x).pendingCount = x.pendingCount) (hd : ∀ x, (f x).dispatchedCount = x.dispatchedCount) :
    Counted (s.modClass k f) := by
  have hc : ∀ j, ((s.modClass k f).cls j).pendingCount = (s.cls j).pendingCount ∧
      ((s.modClass k f).cls j).dispatchedCount = (s.cls j).dispatchedCount := by
    intro j
    have e : (s.modClass k f).cls j = if j = k then f (s.cls j) else s.cls j := Tab.nth_upd _ _ _ _
    rw [e]
    split
    · exact ⟨hp _, hd _⟩
    · exact ⟨rfl, rfl⟩
  exact ⟨fun j => (hc j).1.trans (h.pendingCount j), fun j => (hc j).2.trans (h.dispatchedCount j), h.dispatched⟩

theorem sound_modLink {s : State} (h : Sound s) (l : LinkId) (f : Link → Link) : Sound (s.modLink l f) :=
  ⟨placed_modLink h.placed l f, ⟨h.counted.pendingCount, h.counted.dispatchedCount, h.counted.dispatched⟩, h.pointers,
    h.log, h.device, h.hold⟩

theorem sound_modClass {s : State} (h : Sound s) (k : ClassIdx) {f : ClassRecord → ClassRecord}
    (hp : ∀ x, (f x).pendingCount = x.pendingCount) (hd : ∀ x, (f x).dispatchedCount = x.dispatchedCount) :
    Sound (s.modClass k f) :=
  ⟨placed_modClass h.placed k f, counted_modClass h.counted k hp hd, h.pointers, h.log, h.device, h.hold⟩

theorem placed_modLevel {s : State} (h : Placed s) (a : Addr) (f : LevelEntry → LevelEntry) : Placed (s.modLevel a f) :=
  ⟨h.free, h.pending, h.queued, h.awaiting, h.freeOnce, h.queueOnce, h.txOnce, h.awaitingOnce⟩

/-- What can be read off the part at work by evaluating it. -/
theorem busy_checks :
    ((∀ k, (busy.cls k).pendingCount = (busy.queue k).length) ∧
        (∀ k, (busy.cls k).dispatchedCount = dispatchedOf busy k) ∧
        ∀ c, (busy.port c).dispatched = (busy.port c).tx.length + (busy.port c).waitingAck.length) ∧
      (∀ k, ((busy.cls k).state = .disabled → busy.holding k = 0) ∧
        ((busy.cls k).purge = true → (busy.cls k).state = .draining)) ∧
      (∀ c, (busy.port c).state = .active ∨ (busy.port c).state = .suspect ∨ (busy.port c).dispatched = 0) ∧
      ((∀ k, busy.holding k ≤ (busy.cls k).config.pendingLimit.val) ∧
        (∀ c, (busy.port c).dispatched ≤ (busy.port c).window.val) ∧
        ∀ k, (busy.cls k).config.order = .serial → (busy.cls k).dispatchedCount ≤ 1) ∧
      ((1 ≤ busy.device.leasePeriod.val ∧ 8 ≤ busy.device.low.val ∧ busy.device.low.val < busy.device.high.val) ∧
        (∀ k, 1 ≤ (busy.cls k).config.ackDeadline.val ∧ 1 ≤ (busy.cls k).config.attemptLimit.val ∧
          1 ≤ (busy.cls k).config.confirmCount.val ∧ 1 ≤ (busy.cls k).config.pendingLimit.val) ∧
        (∀ c, 1 ≤ (busy.port c).window.val ∧ 1 ≤ (busy.port c).threshold.val) ∧
        (∀ i, steerValid (Tab.nth busy.bankA i) = true) ∧ ∀ i, steerValid (Tab.nth busy.bankB i) = true) ∧
      busy.grantOrder = allConsumers ∧ busy.notices = NoticeSet.none ∧
      ((busy.hold = .released → busy.device.low.val ≤ busy.freeCount) ∧
        (busy.hold = .asserted → busy.freeCount < busy.device.high.val ∨ busy.restart ≠ none)) ∧
      busy.restart = none ∧ busy.lease = some ⟨0, 500⟩ ∧ busy.log = [] := by
  decide +kernel

theorem busy_counted : Counted busy := ⟨busy_checks.1.1, busy_checks.1.2.1, busy_checks.1.2.2⟩

theorem busy_classesLawful : ClassesLawful busy := busy_checks.2.1

theorem busy_portsLawful : PortsLawful busy := busy_checks.2.2.1

theorem busy_withinLimits : WithinLimits busy :=
  ⟨busy_checks.2.2.2.1.1, busy_checks.2.2.2.1.2.1, busy_checks.2.2.2.1.2.2⟩

theorem busy_attempts : AttemptsBelowLimit busy := by
  intro r k h
  have hf : (busy.rcd r).failed = 0 := by
    rw [busy_rcd]
    split
    · rfl
    · split
      · rfl
      · split <;> rfl
  rw [hf, busy_cls]
  split <;> decide

theorem busy_configured : Configured busy :=
  ⟨busy_checks.2.2.2.2.1.1, busy_checks.2.2.2.2.1.2.1, busy_checks.2.2.2.2.1.2.2.1, busy_checks.2.2.2.2.1.2.2.2.1,
    busy_checks.2.2.2.2.1.2.2.2.2⟩

theorem busy_pointersLawful : PointersLawful busy := by
  intro i r h
  rw [busy_level] at h
  cases h

theorem busy_grantOrder : GrantOrderLawful busy := List.Perm.of_eq busy_checks.2.2.2.2.2.1

theorem busy_notices : NoticesPlaced busy := Or.inl busy_checks.2.2.2.2.2.2.1

theorem busy_hold : HoldLawful busy := busy_checks.2.2.2.2.2.2.2.1

theorem busy_restart : busy.restart = none := busy_checks.2.2.2.2.2.2.2.2.1

theorem busy_lease : busy.lease = some ⟨0, 500⟩ := busy_checks.2.2.2.2.2.2.2.2.2.1

theorem busy_log : busy.log = [] := busy_checks.2.2.2.2.2.2.2.2.2.2

theorem busy_sound : Sound busy :=
  ⟨busy_placed, busy_counted, busy_pointersLawful, by unfold LogWithinCapacity; rw [busy_log]; decide,
    busy_configured.device, busy_hold⟩

/-! ## Witnesses: states and operands that meet the hypotheses of each claim -/

/-- A link in ALIGNING with a count. -/
def aligningLink (l : LinkId) (n : Fin 16) : State := withLink l fun x => { x with state := .aligning, alignCount := n }

/-- A link in UP with a run of bad cells. -/
def badRun (l : LinkId) (n : Fin 4) : State := withLink l fun x => { x with badRun := n }

/-- Class 1 purge-draining. -/
def purging : State := withClass fun x => { x with state := .draining, purge := true }

/-- The part at work with class 2 ENABLED too, which holds nothing. -/
def twoClasses : State := busy.modClass 2 fun x => { x with state := .enabled }

/-- The part at work with cells of source link `n` that Steering has not yet taken. -/
def withWaiting (n : Fin 4) (xs : List Arrival) (s : State) : State := { s with handed := Tab.put s.handed n xs }

/-- The part at work with steering bank B, which is empty, in use. -/
def bankB : State := { busy with activeBank := .b }

/-- Class 1 with one place left under its pending limit. -/
def almostFull : State := withClass fun x => { x with config := { x.config with pendingLimit := 4 } }

/-- Class 1 at its pending limit. -/
def full : State := withClass fun x => { x with config := { x.config with pendingLimit := 3 } }

/-- The part at work with no record FREE. -/
def noneFree : State := { busy with freeList := [] }

/-- Class 1 at its pending limit with the DISPLACE policy. -/
def displacing : State :=
  withClass fun x => { x with config := { x.config with pendingLimit := 3, policy := .displace } }

/-- The same with every record of the class dispatched. -/
def displacingNone : State :=
  { withClass (fun x => { x with config := { x.config with pendingLimit := 2, policy := .displace }, pendingCount := 0 }) with
    queues := Tab.all 32 [] }

/-- Class 1 with a confirm count of 4. -/
def slowConfirm : State := withClass fun x => { x with config := { x.config with confirmCount := 4 } }

/-- The part at work with record 2 one failure short of the attempt limit. -/
def nearlyExhausted : State := busy.modRec 2 fun e => { e with failed := 2 }

/-- The part at work with the deadline of record 2 still running. -/
def waitingLonger : State := busy.modRec 2 fun e => { e with place := .awaiting 1 0 1 }

/-- A response and a notice waiting at consumer 0. -/
def bothSlots : State :=
  withPort fun p => { p with responseSlot := some ⟨1, .ok, Page.zero⟩, noticeSlot := some ⟨true, 1, 0, 0, false⟩ }

/-- A notice waiting at consumer 0. -/
def noticeWaiting : State := withPort fun p => { p with noticeSlot := some ⟨true, 1, 0, 0, false⟩ }

/-- A replay record at consumer 0. -/
def answered : State := withPort fun p => { p with replay := some ⟨1, .ok, Page.zero⟩ }

/-- A wire at consumer 0. -/
def onWire (w : Wire) : State := withLink (.consumer 0) fun x => { x with wire := w }

/-- The part at work with the lease FREE. -/
def noHolder : State := { busy with lease := none }

/-- The part at work with one entry in its Abandon Log. -/
def logged : State := { busy with log := [⟨7, 1, ⟨0, 0, 0⟩, .pulse, 5, 0, 0, .rejected, 0, 1, 0⟩] }

/-- A PULSE of source link 3. -/
def pulseEvent : Arrival := ⟨⟨3, 15, 63⟩, .pulse, 255, 0⟩

/-- A LEVEL 0 of the channel of record 0. -/
def levelEvent : Arrival := ⟨⟨0, 0, 0⟩, .level, 0, 0⟩

/-- A LEVEL 1 of the channel of record 0. -/
def levelHigh : Arrival := ⟨⟨0, 0, 0⟩, .level, 1, 0⟩

/-! ### The machine, reset and links -/

/-- StepRunsFrontCommand, and the laws that every step keeps: a step from a state with a command waiting. -/
theorem witness_step :
    { busy with pending := [.grant, .por] }.pending = .grant :: [.por] ∧ State.reset.pending = [] ∧
      ∃ t, step { busy with pending := [.grant, .por] } = .next t := ⟨rfl, rfl, _, rfl⟩

/-- ReleaseStartsTransmitters, SignalsBeforeUp, AligningCountsGoodCells, BadCellBeforeRunOfFour, SourceLinkLeavesUp,
CellsThatEndAtLink, RestartDiscardsCells, MicrosecondPasses. -/
theorem witness_links :
    (State.inPor.resetAsserted = true ∧ State.reset.resetAsserted = false ∧ (State.reset.link (.source 0)).state = .down ∧
        ((aligningLink (.source 0) 3).link (.source 0)).state = .aligning ∧ (busy.link (.consumer 5)).state ≠ .down) ∧
      (((aligningLink (.consumer 0) 0).link (.consumer 0)).state = .aligning ∧
        ((aligningLink (.consumer 0) 0).link (.consumer 0)).alignCount.val < 15 ∧
        ((aligningLink (.consumer 0) 14).link (.consumer 0)).alignCount.val < 15 ∧
        ((aligningLink (.consumer 0) 15).link (.consumer 0)).alignCount.val = 15 ∧
        ((aligningLink (.source 3) 15).link (.source 3)).alignCount.val = 15 ∧
        (busy.link (.source 0)).state ≠ .aligning ∧ cellLink (.load 0 7) = some (.consumer 0) ∧
        cellLink (.idle (.source 0)) = some (.source 0)) ∧
      (((aligningLink (.source 0) 15).link (.source 0)).state = .aligning ∧
        ((badRun (.source 0) 0).link (.source 0)).state = .up ∧ ((badRun (.source 0) 0).link (.source 0)).badRun.val < 3 ∧
        ((badRun (.source 0) 2).link (.source 0)).badRun.val < 3 ∧ (State.reset.link (.consumer 5)).state = .down) ∧
      ((busy.link (.source 3)).state = .up ∧ ((badRun (.source 3) 3).link (.source 3)).badRun = 3 ∧
        ((badRun (.source 3) 3).link (.source 3)).state = .up) ∧
      ((restarting.link (.consumer 0)).state = .up ∧ (0 : Half).toNat = 0 ∧ 255 < (256 : Half).toNat ∧
        1 < (2 : Half).toNat ∧ ([] : List Tag).length = 0 ∧
        4 < [(⟨0, 0⟩ : Tag), ⟨0, 0⟩, ⟨0, 0⟩, ⟨0, 0⟩, ⟨0, 0⟩].length) ∧
      (cellLink (.claim 0 1) = some (.consumer 0) ∧ wellFormed (.claim 0 1) = true ∧
        Instr.claim 0 1 ≠ .idle (.consumer 0) ∧ Instr.claim 0 1 ≠ .malformedCell (.consumer 0) ∧
        restarting.restart ≠ none ∧ cellLink (.event 3 15 63 .pulse 255) = some (.source 3)) ∧
      (busy.resetAsserted = false ∧ (busy.rcd 2).place = .awaiting 1 0 0 ∧ noHolder.lease = none) := by
  decide +kernel

theorem purging_sound : Sound purging := sound_modClass busy_sound _ (fun _ => rfl) (fun _ => rfl)

theorem badRun_sound : Sound (badRun (.consumer 0) 3) := sound_modLink busy_sound _ _

/-- ConsumerLinkLeavesUp, LinkLossReturnsRecordsInGrantOrder. -/
theorem witness_linkLoss :
    Sound busy ∧ Sound purging ∧ Sound (badRun (.consumer 0) 3) ∧
      ((busy.link (.consumer 0)).state = .up ∧ grantedTo busy 0 = [2, 1] ∧ busy.purgeDraining 1 = false ∧
        (purging.link (.consumer 0)).state = .up ∧ purging.purgeDraining 1 = true ∧
        ((badRun (.consumer 0) 3).link (.consumer 0)).state = .up ∧
        ((badRun (.consumer 0) 3).link (.consumer 0)).badRun = 3) :=
  ⟨busy_sound, purging_sound, badRun_sound, by decide +kernel⟩

/-! ### Events -/

/-- A state that takes the cells of every source link to class 1, with no NOTICE due. -/
abbrev TakesCells (s : State) : Prop :=
  (∀ n, (s.link (.source n)).state = .up) ∧ s.restart = none ∧ s.steering = busy.steering ∧
    (s.cls 1).state = .enabled ∧ s.timebase = 0 ∧ s.notices = NoticeSet.none

theorem states_take_cells :
    TakesCells busy ∧ TakesCells almostFull ∧ TakesCells full ∧ TakesCells noneFree ∧ TakesCells displacing ∧
      TakesCells displacingNone ∧ TakesCells slowConfirm ∧ TakesCells coalescing := by decide +kernel

/-- Entry 0 holds each of the cells, and is valid for class 1. -/
theorem entry_holds :
    (Tab.nth busy.steering 0).valid = true ∧ (Tab.nth busy.steering 0).cls = 1 ∧
      ∀ x ∈ [pulseEvent, levelEvent, levelHigh],
        (Tab.nth busy.steering 0).holdsCell x.addr x.kind = true ∧ datumOk x.kind x.datum = true ∧ x.stamp = 0 := by
  decide +kernel

theorem routed_to_one {s : State} (h : s.steering = busy.steering) {x : Arrival}
    (hx : x ∈ [pulseEvent, levelEvent, levelHigh]) : RoutedTo s x.addr x.kind 1 :=
  ⟨0, by rw [h]; exact entry_holds.1, by rw [h]; exact (entry_holds.2.2 x hx).1, by rw [h]; exact entry_holds.2.1,
    fun j hj => absurd hj (Fin.not_lt_zero j)⟩

/-- No cell waits for Steering, and the next is taken at once. -/
abbrev Prompt (s : State) : Prop := s.handed = busy.handed ∧ s.late = []

theorem passing_of {s : State} (h : Prompt s) {l : LinkId} (hu : (s.link l).state = .up)
    (hr : s.restart = none) : Passing s l :=
  ⟨hu, hr, fun n _ => by rw [h.1]; exact Tab.nth_all _ n, fun _ _ => by rw [h.2]; rfl⟩

theorem TakesCells.offered {s : State} (h : TakesCells s) {x : Arrival} (hp : Prompt s := by exact ⟨rfl, rfl⟩)
    (hx : x ∈ [pulseEvent, levelEvent, levelHigh] := by simp) : Offered s x 1 :=
  ⟨passing_of hp (h.1 _) h.2.1, (entry_holds.2.2 x hx).2.1, routed_to_one h.2.2.1 hx, h.2.2.2.1,
    (entry_holds.2.2 x hx).2.2.trans h.2.2.2.2.1.symm⟩

/-- The clauses on cells that wait: SourceLinkLeavesUp with a confirm count of 1 and of 4, CellsThatEndAtLink. -/
theorem witness_waitingCells :
    (((busy.link (.source 0)).state = .up ∧ Tab.nth (withWaiting 0 [levelHigh] busy).handed 0 = [levelHigh] ∧
          levelHigh.addr.link = 0 ∧ levelHigh.kind = .level ∧ (busy.cls 1).state = .enabled ∧
          (busy.cls 1).config.confirmCount.val ≤ 1) ∧
        Tab.nth (withWaiting 0 [levelHigh] slowConfirm).handed 0 = [levelHigh] ∧
          1 < (slowConfirm.cls 1).config.confirmCount.val) ∧
      (({ busy with late := [true] }.late.headD false = true ∧ datumOk .pulse pulseEvent.datum = true ∧
          busy.late.headD false = false) ∧
        Tab.nth (withWaiting 3 [pulseEvent] busy).handed pulseEvent.addr.link = [pulseEvent] ∧ pulseEvent.kind ≠ .level ∧
          busy.freeList ≠ [] ∧ (withWaiting 3 [pulseEvent] busy).holding 1 < (busy.cls 1).config.pendingLimit.val) := by
  decide +kernel

theorem witness_waitingRouted :
    RoutedTo (withWaiting 0 [levelHigh] busy) levelHigh.addr levelHigh.kind 1 ∧
      RoutedTo (withWaiting 0 [levelHigh] slowConfirm) levelHigh.addr levelHigh.kind 1 ∧
      RoutedTo (withWaiting 3 [pulseEvent] busy) pulseEvent.addr pulseEvent.kind 1 :=
  ⟨routed_to_one rfl (by simp), routed_to_one rfl (by simp), routed_to_one rfl (by simp)⟩

/-- A cell that waits meets the law on such cells. -/
theorem witness_handedLawful : HandedLawful (withWaiting 3 [pulseEvent] busy) ∧ CaughtUp busy (.source 3) := by
  constructor
  · intro n x hx
    have e : Tab.nth (withWaiting 3 [pulseEvent] busy).handed n = if n = 3 then [pulseEvent] else Tab.nth busy.handed n :=
      Tab.nth_put _ _ _ _
    rw [e] at hx
    by_cases hn : n = 3
    · rw [if_pos hn] at hx
      obtain rfl : x = pulseEvent := List.mem_singleton.mp hx
      exact ⟨hn.symm, by decide, congrArg Link.state (busy_link _), busy_restart⟩
    · rw [if_neg hn, show Tab.nth busy.handed n = [] from Tab.nth_all _ n] at hx
      cases hx
  · intro n _
    exact Tab.nth_all _ n

theorem TakesCells.notices {s : State} (h : TakesCells s) : NoticesPlaced s := Or.inl h.2.2.2.2.2

/-- A PULSE or VALUE cell goes on to the store tests. -/
theorem toStore_pulse (s : State) (k : ClassIdx) : ToStore s pulseEvent k := fun h => absurd h (by decide)

/-- The rest of the hypotheses of the claims about events, at the ends of their ranges: EventsWithoutEnabledClass,
EventAllocatesHeadOfFreeList, RefusePolicyRefuses, DisplacePolicyDisplaces, LevelReportsThatTakeNoRecord. -/
theorem event_checks :
    ((bankB.link (.source 3)).state = .up ∧ bankB.restart = none ∧ bankB.notices = NoticeSet.none ∧
        (∀ i, ¬ ((Tab.nth bankB.steering i).valid = true ∧
          (Tab.nth bankB.steering i).holdsCell pulseEvent.addr pulseEvent.kind = true)) ∧
        (purging.link (.source 3)).state = .up ∧ purging.restart = none ∧ purging.steering = busy.steering ∧
        (purging.cls 1).state ≠ .enabled ∧ purging.notices = NoticeSet.none) ∧
      (busy.holding 1 < (busy.cls 1).config.pendingLimit.val ∧
        (reportEntry busy 1 levelHigh.addr (levelOf levelHigh.datum)).2 = true ∧
        (reportEntry busy 1 levelHigh.addr (levelOf levelHigh.datum)).1.pendingRec = none ∧
        almostFull.holding 1 + 1 = (almostFull.cls 1).config.pendingLimit.val) ∧
      ((full.cls 1).config.policy = .refuse ∧ ¬ full.holding 1 < (full.cls 1).config.pendingLimit.val ∧
        (noneFree.cls 1).config.policy = .refuse ∧ noneFree.freeList = []) ∧
      ((displacing.cls 1).config.policy = .displace ∧
        ¬ displacing.holding 1 < (displacing.cls 1).config.pendingLimit.val ∧ displacing.queue 1 = [0] ∧
        (displacingNone.cls 1).config.policy = .displace ∧
        ¬ displacingNone.holding 1 < (displacingNone.cls 1).config.pendingLimit.val ∧ displacingNone.queue 1 = []) ∧
      ((levelFilter (slowConfirm.level levelEvent.addr) (levelOf levelEvent.datum)
          (slowConfirm.cls 1).config.confirmCount).2 = false ∧
        (slowConfirm.level levelEvent.addr).pendingRec = none ∧
        (reportEntry coalescing 1 levelEvent.addr (levelOf levelEvent.datum)).2 = true ∧
        (reportEntry coalescing 1 levelEvent.addr (levelOf levelEvent.datum)).1.pendingRec = some 0) := by
  decide +kernel

theorem witness_eventsWithoutEnabledClass :
    (NoticesPlaced bankB ∧ Passing bankB (.source 3) ∧ Unmatched bankB pulseEvent.addr pulseEvent.kind) ∧
      NoticesPlaced purging ∧ Passing purging (.source 3) ∧ RoutedTo purging pulseEvent.addr pulseEvent.kind 1 ∧
      (purging.cls 1).state ≠ .enabled := by
  obtain ⟨⟨h1, h2, h3, h4, h5, h6, h7, h8, h9⟩, -⟩ := event_checks
  exact ⟨⟨Or.inl h3, passing_of (s := bankB) ⟨rfl, rfl⟩ h1 h2, h4⟩, Or.inl h9,
    passing_of (s := purging) ⟨rfl, rfl⟩ h5 h6, routed_to_one h7 (by simp), h8⟩

theorem witness_eventAllocates :
    (Offered busy pulseEvent 1 ∧ ToStore busy pulseEvent 1 ∧ busy.holding 1 < (busy.cls 1).config.pendingLimit.val ∧
        ∃ r rest, busy.freeList = r :: rest) ∧
      (Offered busy levelHigh 1 ∧ ToStore busy levelHigh 1) ∧
      Offered almostFull pulseEvent 1 ∧ almostFull.holding 1 + 1 = (almostFull.cls 1).config.pendingLimit.val := by
  obtain ⟨-, ⟨h1, h2, h3, h4⟩, -⟩ := event_checks
  have hne : busy.freeList ≠ [] := by
    intro e
    have := (mem_freeList 3).mpr (by decide)
    rw [e] at this
    cases this
  exact ⟨⟨states_take_cells.1.offered, toStore_pulse _ _, h1, List.exists_cons_of_ne_nil hne⟩,
    ⟨states_take_cells.1.offered, fun _ => ⟨h2, h3⟩⟩, states_take_cells.2.1.offered, h4⟩

theorem witness_refusePolicyRefuses :
    (NoticesPlaced full ∧ Offered full pulseEvent 1 ∧ ToStore full pulseEvent 1 ∧ (full.cls 1).config.policy = .refuse ∧
        ¬ full.holding 1 < (full.cls 1).config.pendingLimit.val) ∧
      NoticesPlaced noneFree ∧ Offered noneFree pulseEvent 1 ∧ (noneFree.cls 1).config.policy = .refuse ∧
      noneFree.freeList = [] := by
  obtain ⟨-, -, ⟨h1, h2, h3, h4⟩, -⟩ := event_checks
  obtain ⟨-, -, hf, hn, -⟩ := states_take_cells
  exact ⟨⟨hf.notices, hf.offered, toStore_pulse _ _, h1, h2⟩, hn.notices, hn.offered, h3, h4⟩

theorem witness_displacePolicyDisplaces :
    (NoticesPlaced displacing ∧ Offered displacing pulseEvent 1 ∧ ToStore displacing pulseEvent 1 ∧
        (displacing.cls 1).config.policy = .displace ∧
        ¬ displacing.holding 1 < (displacing.cls 1).config.pendingLimit.val ∧ displacing.queue 1 = [0]) ∧
      NoticesPlaced displacingNone ∧ Offered displacingNone pulseEvent 1 ∧
      (displacingNone.cls 1).config.policy = .displace ∧
      ¬ displacingNone.holding 1 < (displacingNone.cls 1).config.pendingLimit.val ∧ displacingNone.queue 1 = [] := by
  obtain ⟨-, -, -, ⟨h1, h2, h3, h4, h5, h6⟩, -⟩ := event_checks
  obtain ⟨-, -, -, -, hd, hn, -⟩ := states_take_cells
  exact ⟨⟨hd.notices, hd.offered, toStore_pulse _ _, h1, h2, h3⟩, hn.notices, hn.offered, h4, h5, h6⟩

theorem witness_confirmationFilter :
    (⟨some 1, some 0, 2, none⟩ : LevelEntry).confirmed = some 1 ∧
      ((⟨some 1, some 0, 2, none⟩ : LevelEntry).confirmed ≠ some 0 ∧
        (3 : Fin 5).val ≤ (⟨some 1, some 0, 2, none⟩ : LevelEntry).count.val + 1) ∧
      (⟨some 1, some 0, 2, none⟩ : LevelEntry).count.val + 1 < (4 : Fin 5).val ∧
      (⟨none, none, 0, none⟩ : LevelEntry).candidate ≠ some 0 ∧ 1 ≤ (1 : Fin 5).val := by decide

theorem coalescing_pointersLawful : PointersLawful coalescing := by
  intro i r h
  have e : Tab.nth coalescing.levels i =
      if i = levelIndex ⟨0, 0, 0⟩ then { Tab.nth busy.levels i with confirmed := some 1, pendingRec := some 0 }
      else Tab.nth busy.levels i := Tab.nth_upd _ _ _ _
  rw [e] at h
  by_cases hi : i = levelIndex ⟨0, 0, 0⟩
  · rw [if_pos hi] at h
    obtain rfl : (0 : RecIdx) = r := Option.some.inj h
    subst hi
    have hr : coalescing.rcd 0 = waitingRec := busy_rcd 0
    rw [hr]
    exact ⟨⟨1, rfl⟩, rfl, rfl, rfl⟩
  · rw [if_neg hi, busy_level] at h
    cases h

theorem witness_levelReportsThatTakeNoRecord :
    (NoticesPlaced slowConfirm ∧ Offered slowConfirm levelEvent 1 ∧
        (levelFilter (slowConfirm.level levelEvent.addr) (levelOf levelEvent.datum)
          (slowConfirm.cls 1).config.confirmCount).2 = false ∧ (slowConfirm.level levelEvent.addr).pendingRec = none) ∧
      NoticesPlaced coalescing ∧ PointersLawful coalescing ∧ Offered coalescing levelEvent 1 ∧
      (reportEntry coalescing 1 levelEvent.addr (levelOf levelEvent.datum)).2 = true ∧
      (reportEntry coalescing 1 levelEvent.addr (levelOf levelEvent.datum)).1.pendingRec = some 0 := by
  obtain ⟨-, -, -, -, h1, h2, h3, h4⟩ := event_checks
  obtain ⟨-, -, -, -, -, -, hs, hc⟩ := states_take_cells
  exact ⟨⟨hs.notices, hs.offered, h1, h2⟩, hc.notices, coalescing_pointersLawful, hc.offered, h3, h4⟩

/-! ### Settlement, dispatch and the transmitters -/

theorem busy_passing (l : LinkId) : Passing busy l :=
  passing_of ⟨rfl, rfl⟩ (congrArg Link.state (busy_link l)) busy_restart

theorem queued_at_zero : DispatchedTo busy 1 1 0 := Or.inl (busy_place 1)

theorem awaiting_at_zero : DispatchedTo busy 2 1 0 := Or.inr ⟨0, busy_place 2⟩

/-- The rest of the hypotheses of the claims about settlement: AckCompletesRecords, ChargedFailureReturnsRecord,
FailuresThatAbandonRecord, LoadStoresLevel; and of those about dispatch: GrantTakesHeadOfContender,
ContendersAndCandidates, GrantChoosesClassAndConsumer, SourceSlotSendsHoldState, ConsumerSlotChoosesCell,
SendCompletionStartsDeadline. -/
theorem settlement_checks :
    (busy.purgeDraining 1 = false ∧ (busy.rcd 1).failed.toNat + 1 < (busy.cls 1).config.attemptLimit.val ∧
        (busy.rcd 2).failed.toNat + 1 < (busy.cls 1).config.attemptLimit.val ∧
        Instr.nackBusy 0 ⟨1, 0⟩ = .nackBusy 0 ⟨1, (busy.rcd 1).generation⟩) ∧
      ((nearlyExhausted.rcd 2).place = .awaiting 1 0 0 ∧ nearlyExhausted.purgeDraining 1 = false ∧
        (nearlyExhausted.cls 1).config.attemptLimit.val ≤ (nearlyExhausted.rcd 2).failed.toNat + 1 ∧
        purging.purgeDraining 1 = true ∧ (purging.rcd 2).place = .awaiting 1 0 0) ∧
      (busy.rcd 2).generation = 0 ∧ (waitingLonger.rcd 2).place = .awaiting 1 0 1 ∧
      ((busy.port 0).state = .active ∧ ((withPort fun p => { p with state := .suspect }).port 0).state = .suspect) ∧
      (isContender busy 1 = true ∧ isCandidate busy 1 0 = true ∧ isCandidate busy 1 1 = true ∧
        (busy.rcd 0).tried.getLsbD 1 = false ∧ (∀ k, isContender State.reset k = false) ∧ restarting.restart ≠ none) ∧
      ((bothSlots.port 0).responseSlot = some ⟨1, .ok, Page.zero⟩ ∧ (noticeWaiting.port 0).responseSlot = none ∧
        (noticeWaiting.port 0).noticeSlot = some ⟨true, 1, 0, 0, false⟩ ∧
        ((busy.port 0).responseSlot = none ∧ (busy.port 0).noticeSlot = none ∧ (busy.port 0).tx = [deliverOne]) ∧
        ((busy.port 1).responseSlot = none ∧ (busy.port 1).noticeSlot = none ∧ (busy.port 1).tx = []) ∧
        (State.reset.link (.consumer 0)).state ≠ .up) ∧
      (((onWire (.sending (.deliver deliverOne))).link (.consumer 0)).wire = .sending (.deliver deliverOne) ∧
        (busy.rcd deliverOne.tag.index).place = .queued 1 0 ∧
        ((onWire (.finishing deliverOne)).link (.consumer 0)).wire = .finishing deliverOne) ∧
      ((answered.port 0).responseSlot = none ∧ (answered.port 0).replay = some ⟨1, .ok, Page.zero⟩ ∧
        (bothSlots.port 0).responseSlot ≠ none ∧ requestOf (.claim 0 1) = some (0, 1)) := by
  decide +kernel

theorem witness_ackCompletesRecords :
    Passing busy (.consumer 0) ∧ Accepted busy 0 ⟨1, 0⟩ 1 ∧ Accepted busy 0 ⟨2, 0⟩ 1 ∧
      1 ≤ [(⟨2, 0⟩ : Tag)].length ∧ [(⟨2, 0⟩ : Tag), ⟨3, 0⟩, ⟨4, 0⟩].length ≤ 3 := by
  refine ⟨busy_passing _, ⟨queued_at_zero, ?_⟩, ⟨awaiting_at_zero, settlement_checks.2.2.1⟩, by decide, by decide⟩
  rw [busy_rcd]
  rfl

theorem witness_chargedFailureReturnsRecord :
    NoticesPlaced busy ∧ busy.purgeDraining 1 = false ∧ Passing busy (.consumer 0) ∧ DispatchedTo busy 1 1 0 ∧
      (busy.rcd 1).failed.toNat + 1 < (busy.cls 1).config.attemptLimit.val ∧ (busy.rcd 2).place = .awaiting 1 0 0 ∧
      (busy.rcd 2).failed.toNat + 1 < (busy.cls 1).config.attemptLimit.val :=
  ⟨busy_notices, settlement_checks.1.1, busy_passing _, queued_at_zero, settlement_checks.1.2.1, busy_place 2,
    settlement_checks.1.2.2.1⟩

theorem witness_failuresThatAbandonRecord :
    (Passing busy (.consumer 0) ∧ DispatchedTo busy 1 1 0) ∧
      ((nearlyExhausted.rcd 2).place = .awaiting 1 0 0 ∧ nearlyExhausted.purgeDraining 1 = false ∧
        (nearlyExhausted.cls 1).config.attemptLimit.val ≤ (nearlyExhausted.rcd 2).failed.toNat + 1) ∧
      purging.purgeDraining 1 = true ∧ (purging.rcd 2).place = .awaiting 1 0 0 :=
  ⟨⟨busy_passing _, queued_at_zero⟩,
    ⟨settlement_checks.2.1.1, settlement_checks.2.1.2.1, settlement_checks.2.1.2.2.1⟩, settlement_checks.2.1.2.2.2⟩

/-- Record 0 is PENDING, record 1 has generation 0, record 2 is not consumer 1's: their tags are stale. -/
theorem witness_staleTagsAndEarlyExpiries :
    (∀ k c, (busy.rcd 1).place ≠ .awaiting k c 0) ∧ (∀ k c, (waitingLonger.rcd 2).place ≠ .awaiting k c 0) ∧
      Passing busy (.consumer 0) ∧ (∀ k, ¬ Accepted busy 0 ⟨0, 0⟩ k) ∧ (∀ k, ¬ Accepted busy 0 ⟨1, 7⟩ k) ∧
      ∀ k, ¬ Accepted busy 1 ⟨2, 0⟩ k := by
  refine ⟨?_, ?_, busy_passing _, ?_, ?_, ?_⟩
  · intro k c h
    rw [busy_place] at h
    cases h
  · intro k c h
    rw [settlement_checks.2.2.2.1] at h
    cases h
  · rintro k ⟨h | ⟨d, h⟩, -⟩ <;> rw [busy_place] at h <;> cases h
  · rintro k ⟨-, h⟩
    rw [busy_rcd] at h
    exact absurd h (by decide)
  · rintro k ⟨h | ⟨d, h⟩, -⟩ <;> rw [busy_place] at h <;> cases h

theorem witness_grant :
    GrantOrderLawful busy ∧ busy.restart = none ∧ isContender busy 1 = true ∧ isCandidate busy 1 0 = true ∧
      isCandidate busy 1 1 = true :=
  ⟨busy_grantOrder, busy_restart, settlement_checks.2.2.2.2.2.1.1, settlement_checks.2.2.2.2.2.1.2.1,
    settlement_checks.2.2.2.2.2.1.2.2.1⟩

theorem witness_slots :
    (∀ d, (busy.link (.consumer 0)).wire ≠ .sending (.deliver d)) ∧
      ∀ d, (busy.link (.consumer 0)).wire ≠ .finishing d := by
  constructor
  · intro d h
    rw [busy_link] at h
    cases h
  · intro d h
    rw [busy_link] at h
    cases h

/-! ### Requests -/

/-- Every consumer's request is taken and carried out at work. -/
theorem busy_carried (c : ConsumerIdx) (seq : Byte) : Carried busy c seq := by
  have hp : (busy.port c).responseSlot = none ∧ (busy.port c).replay = none := by
    rw [busy_port]
    split
    · exact ⟨rfl, rfl⟩
    · split <;> exact ⟨rfl, rfl⟩
  refine ⟨congrArg Link.state (busy_link _), busy_restart, hp.1, fun r hr => ?_⟩
  rw [hp.2] at hr
  cases hr

/-- Consumer 0 asks as the lease holder: what intake reads. -/
abbrev Asks (s : State) : Prop :=
  (s.link (.consumer 0)).state = .up ∧ s.restart = none ∧ (s.port 0).responseSlot = none ∧ (s.port 0).replay = none ∧
    s.holds 0 = true

theorem Asks.holder {s : State} (h : Asks s) (seq : Byte) : HolderAsks s 0 seq := by
  refine ⟨⟨h.1, h.2.1, h.2.2.1, fun r hr => ?_⟩, h.2.2.2.2⟩
  rw [h.2.2.2.1] at hr
  cases hr

/-- The hypotheses of the claims about requests, at the ends of their ranges: OverrunsAndReplays, RequestsTurnedAway,
ClaimOutcomes, LeaseEnds, ReadAnswersPage, WriteDeviceAndConsumer, WriteSteeringAndClass, SwapExchangesBanks,
EnableOutcomes, ClassDisableWithoutPurge, PurgeEmptiesClassQueue, ConsumerDisableOutcomes, SetTimeClearCountsFreeze,
TakeLogReadsOldestEntry, RestartTakesEveryBlock, RestartEnds. -/
theorem request_checks :
    (Asks busy ∧ Asks frozenBusy ∧ Asks bankB ∧ Asks logged ∧ busy.frozen = false ∧ frozenBusy.frozen = true) ∧
      (requestOf (.swap 1 9) = some (1, 9) ∧ needsLease (.swap 1 9) = true ∧ busy.holds 1 = false ∧
        noHolder.lease = none ∧ (noHolder.port 1).replay = none ∧ (noHolder.port 1).responseSlot = none ∧
        (noHolder.link (.consumer 1)).state = .up ∧ noHolder.restart = none) ∧
      (busy.activeBank = .a ∧ bankB.activeBank = .b ∧ steerOf ⟨2, 1, 0, 0, 0, 0, 1, 0⟩ = none ∧
        steerOf ⟨0, 0, 0, 0, 0, 0, 0, 0⟩ = some SteerEntry.por ∧ classOf Page.zero = none ∧
        classOf ⟨0, 0, 3, 10, 3, 1, 0, 64⟩ = some ClassConfig.por ∧
        ((8 : Byte).toNat < 9 ∧ (be16 0 9).toNat ≤ (9 : Byte).toNat ∧ 511 < (be16 2 0).toNat ∧
          (be16 0x01 0xFF).toNat = 511)) ∧
      ((busy.cls 1).state = .enabled ∧ (busy.cls 2).state = .disabled ∧ (busy.cls 2).config.group = 0 ∧
        (busy.cls 1).config.group ≠ 0 ∧ (purging.cls 1).state = .draining ∧ busy.holding 1 ≠ 0 ∧
        (State.reset.modClass 1 fun x => { x with state := .enabled }).holding 1 = 0 ∧
        (busy.cls 1).dispatchedCount ≠ 0 ∧ busy.queue 1 = [0]) ∧
      ((busy.port 5).state = .off ∧ (busy.link (.consumer 5)).state = .up ∧ (busy.port 0).state ≠ .off ∧
        ((aligningLink (.consumer 5) 0).link (.consumer 5)).state ≠ .up) ∧
      (busy.log = [] ∧ logged.log.length = 1 ∧ restarting.restart = some ⟨0, 9, true⟩ ∧ busy.restart = none) := by
  decide +kernel

theorem witness_holderAsks (seq : Byte) :
    HolderAsks busy 0 seq ∧ HolderAsks frozenBusy 0 seq ∧ HolderAsks bankB 0 seq ∧ HolderAsks logged 0 seq :=
  ⟨request_checks.1.1.holder seq, request_checks.1.2.1.holder seq, request_checks.1.2.2.1.holder seq,
    request_checks.1.2.2.2.1.holder seq⟩

theorem witness_claimOutcomes :
    (Carried noHolder 1 9 ∧ noHolder.lease = none) ∧
      Carried busy 0 9 ∧ Carried busy 1 9 ∧ busy.lease = some ⟨0, 500⟩ ∧ (⟨0, 500⟩ : Lease).holder ≠ 1 := by
  obtain ⟨-, ⟨-, -, -, h1, h2, h3, h4, h5⟩, -⟩ := request_checks
  refine ⟨⟨⟨h4, h5, h3, fun r hr => ?_⟩, h1⟩, busy_carried 0 9, busy_carried 1 9, busy_lease, by decide⟩
  rw [h2] at hr
  cases hr

theorem witness_leaseEnds :
    { busy with lease := some ⟨0, 0⟩ }.lease = some ⟨0, 0⟩ ∧ ∀ x, busy.lease = some x → x.remaining ≠ 0 := by
  refine ⟨rfl, fun x h => ?_⟩
  rw [busy_lease] at h
  obtain rfl : (⟨0, 500⟩ : Lease) = x := Option.some.inj h
  decide

theorem witness_readAnswersPage :
    Carried busy 5 9 ∧
      ((9 : Byte).toNat, Table.store, 512, 3) ∈
        [(1, Table.device, 1, 1), (2, .steering .a, 64, 1), (3, .steering .b, 64, 1), (4, .classConfig, 32, 1),
          (5, .consumerConfig, 6, 1), (6, .classCounts, 32, 2), (7, .consumerCounts, 6, 3), (8, .level, 4096, 1),
          (9, .store, 512, 3), (10, .status, 1, 4), (11, .linkCounts, 10, 1)] ∧
      (512 ≤ (512 : Half).toNat ∧ 3 ≤ (3 : Byte).toNat) ∧ (511 : Half).toNat < 512 ∧ (2 : Byte).toNat < 3 :=
  ⟨busy_carried 5 9, by decide⟩

/-- The codes, indices and flags at which the clauses of the request claims meet. -/
theorem witness_requestFields :
    ((0 : Byte).toNat = 0 ∧ 12 ≤ (12 : Byte).toNat ∧ 6 ≤ (6 : Byte).toNat ∧ (11 : Byte).toNat ≤ 11) ∧
      (64 ≤ (64 : Half).toNat ∧ (63 : Half).toNat = (63 : Fin 64).val ∧ 32 ≤ (32 : Half).toNat ∧
        (31 : Half).toNat = (31 : Fin 32).val ∧ 6 ≤ (6 : Half).toNat ∧ (5 : Half).toNat = (5 : Fin 6).val) ∧
      (8 < (9 : Byte).toNat ∧ 15 < (16 : Byte).toNat ∧ (8 : Byte).toNat = (8 : Fin 9).val) ∧
      (1 < (2 : Byte).toNat ∧ (1 : Byte).toNat ≤ 1 ∧ (0 : Byte) = (if false then 1 else 0)) ∧
      2 < (3 : Byte).toNat ∧ (1 : Half) ≠ 0 := by decide

/-- Class 1 ENABLED and DRAINING with records dispatched; class 2 with none, whose drain ends at once. -/
theorem witness_purgeEmptiesClassQueue :
    (HolderAsks busy 0 9 ∧ Sound busy ∧ (1 : Half).toNat = (1 : ClassIdx).val ∧ (busy.cls 1).state = .enabled ∧
        (busy.cls 1).dispatchedCount ≠ 0) ∧
      (HolderAsks purging 0 9 ∧ Sound purging ∧ (purging.cls 1).state = .draining) ∧
      HolderAsks twoClasses 0 9 ∧ Sound twoClasses ∧ (2 : Half).toNat = (2 : ClassIdx).val ∧
      (twoClasses.cls 2).state = .enabled ∧ (twoClasses.cls 2).dispatchedCount = 0 := by
  have h : (Asks purging ∧ Asks twoClasses) ∧ (purging.cls 1).state = .draining ∧ (twoClasses.cls 2).state = .enabled ∧
      (twoClasses.cls 2).dispatchedCount = 0 := by decide +kernel
  exact ⟨⟨request_checks.1.1.holder 9, busy_sound, by decide, request_checks.2.2.2.1.1,
      request_checks.2.2.2.1.2.2.2.2.2.2.2.1⟩,
    ⟨h.1.1.holder 9, purging_sound, h.2.1⟩, h.1.2.holder 9,
    sound_modClass busy_sound _ (fun _ => rfl) (fun _ => rfl), by decide, h.2.2⟩

/-- ConsumerDisableOutcomes: a consumer in service with records of a purge-draining class and of one that is not, and one
that is OFF. -/
theorem witness_consumerDisable :
    (HolderAsks busy 0 9 ∧ Sound busy ∧ (0 : Half).toNat = (0 : ConsumerIdx).val ∧ (busy.port 0).state ≠ .off) ∧
      (busy.port 5).state = .off ∧ Sound purging ∧ HolderAsks purging 0 9 :=
  ⟨⟨request_checks.1.1.holder 9, busy_sound, by decide, request_checks.2.2.2.2.1.2.2.1⟩, request_checks.2.2.2.2.1.1,
    purging_sound, witness_purgeEmptiesClassQueue.2.1.1⟩

/-- RestartTakesEveryBlock: a holder whose link has a run of bad cells, with and without retain, frozen and not; and cells
that wait on two links, in either order. -/
theorem witness_restart :
    (HolderAsks (badRun (.consumer 0) 1) 0 9 ∧ HolderAsks (badRun (.consumer 0) 3) 0 9 ∧ HolderAsks frozenBusy 0 9) ∧
      (((badRun (.consumer 0) 1).link (.consumer 0)).badRun = 1 ∧
        ((badRun (.consumer 0) 3).link (.consumer 0)).badRun = 3 ∧
        ((after (.restart 0 9 0) (badRun (.consumer 0) 3)).link (.consumer 0)).badRun = 0) ∧
      ((∀ n, ∀ x ∈ Tab.nth (withWaiting 3 [pulseEvent] (withWaiting 0 [levelHigh] busy)).handed n, x.addr.link = n) ∧
        (∀ n, [pulseEvent, levelHigh].filter (fun x => x.addr.link == n) =
          Tab.nth (withWaiting 3 [pulseEvent] (withWaiting 0 [levelHigh] busy)).handed n) ∧
        ∀ n, [levelHigh, pulseEvent].filter (fun x => x.addr.link == n) =
          Tab.nth (withWaiting 3 [pulseEvent] (withWaiting 0 [levelHigh] busy)).handed n) := by
  have h : Asks (badRun (.consumer 0) 1) ∧ Asks (badRun (.consumer 0) 3) := by decide +kernel
  exact ⟨⟨h.1.holder 9, h.2.holder 9, request_checks.1.2.1.holder 9⟩, by decide +kernel⟩

/-! ### Cells and laws -/

theorem witness_cells :
    wellFormed (.ack 4 [⟨511, 7⟩]) = true ∧ (encodeCell (.load 4 15)).map (·.1) = some (.consumer 4) ∧
      (⟨true, 16, 0, 0, false⟩ : Notice).occupancy ≤ 16 := by decide

theorem witness_laws :
    Placed busy ∧ Counted busy ∧ ClassesLawful busy ∧ PortsLawful busy ∧ WithinLimits busy ∧ AttemptsBelowLimit busy ∧
      Configured busy ∧ (Placed coalescing ∧ PointersLawful coalescing) ∧ GrantOrderLawful busy ∧
      DeviceLawful busy.device ∧ HoldLawful busy ∧ NoticesPlaced busy :=
  ⟨busy_placed, busy_counted, busy_classesLawful, busy_portsLawful, busy_withinLimits, busy_attempts, busy_configured,
    ⟨placed_modLevel (placed_modClass busy_placed _ _) _ _, coalescing_pointersLawful⟩, busy_grantOrder,
    busy_configured.device, busy_hold, busy_notices⟩

theorem witness_lawsOfLinks : LogWithinCapacity busy ∧ LinkCountsLawful busy ∧ HolderLinkUp busy ∧ PortsFollowLinks busy := by
  have hu : ∀ l, busy.link l = upLink := busy_link
  refine ⟨?_, ?_, ?_, ?_⟩
  · unfold LogWithinCapacity
    rw [busy_log]
    decide
  · intro l
    rw [hu]
    decide
  · intro x _
    rw [hu]
    rfl
  · intro c
    rw [hu, busy_port]
    split
    · decide
    · split <;> decide

theorem witness_frozenFlag : frozenBusy.frozen = true ∧ Instr.timebaseCount ≠ .por :=
  ⟨request_checks.1.2.2.2.2.2, by decide⟩

end Sys2Proof.Tests
end

section
/-! # The collections of the Event Store

Every claim on the store moves one record from its collection to another (R2). `Relocates` says that once, for lists,
places and counts; each claim is shown to be such a move, and the laws are shown to be kept by every such move. -/

namespace Sys2Proof.Machine

/-! ## Lists of records -/

/-- From `l` to `l'` record `r` has been taken out and, exactly where `here` holds, put at the head or at the tail. -/
def Relisted (r : RecIdx) (here : Prop) (l l' : List RecIdx) : Prop :=
  (here ∧ (l' = r :: without r l ∨ l' = without r l ++ [r])) ∨ (¬ here ∧ l' = without r l)

@[simp] theorem mem_without {r q : RecIdx} {l : List RecIdx} : q ∈ without r l ↔ q ∈ l ∧ q ≠ r := by
  simp [without]

theorem without_of_notMem {r : RecIdx} {l : List RecIdx} (h : r ∉ l) : without r l = l := by
  rw [without, List.filter_eq_self]
  intro q hq
  have : q ≠ r := fun e => h (e ▸ hq)
  simpa using this

theorem nodup_without {l : List RecIdx} (r : RecIdx) (h : l.Nodup) : (without r l).Nodup := h.filter _

theorem without_head {r : RecIdx} {l : List RecIdx} (h : (r :: l).Nodup) : without r (r :: l) = l := by
  have e : without r (r :: l) = without r l := by simp [without]
  rw [e, without_of_notMem (List.nodup_cons.mp h).1]

/-- A DELIVER leaves the transmit queue as its record leaves the list of records there. -/
theorem map_withoutDeliver (r : RecIdx) (q : List Deliver) :
    (withoutDeliver r q).map (·.tag.index) = without r (q.map (·.tag.index)) := by
  simp only [withoutDeliver, without, List.filter_map]
  rfl

theorem length_without_add {r : RecIdx} {l : List RecIdx} (h : l.Nodup) :
    (without r l).length + (if r ∈ l then 1 else 0) = l.length := by
  induction l with
  | nil => simp [without]
  | cons a l ih =>
    obtain ⟨ha, hl⟩ := List.nodup_cons.mp h
    by_cases har : a = r
    · subst har
      rw [without_head h]
      simp
    · have e : without r (a :: l) = a :: without r l := by simp [without, har]
      have := ih hl
      simp only [e, List.length_cons, List.mem_cons, Ne.symm har, false_or]
      omega

namespace Relisted

variable {r : RecIdx} {here : Prop} {l l' : List RecIdx}

/-- A list without the record, where it does not belong either, stays. -/
theorem unchanged (hm : r ∉ l) (hn : ¬ here) : Relisted r here l l := Or.inr ⟨hn, (without_of_notMem hm).symm⟩

theorem removed (hn : ¬ here) : Relisted r here l (without r l) := Or.inr ⟨hn, rfl⟩

theorem toTail (hm : r ∉ l) (hh : here) : Relisted r here l (l ++ [r]) :=
  Or.inl ⟨hh, Or.inr (by rw [without_of_notMem hm])⟩

theorem toHead (hm : r ∉ l) (hh : here) : Relisted r here l (r :: l) :=
  Or.inl ⟨hh, Or.inl (by rw [without_of_notMem hm])⟩

theorem mem_iff (h : Relisted r here l l') (q : RecIdx) : q ∈ l' ↔ (q = r ∧ here) ∨ (q ≠ r ∧ q ∈ l) := by
  rcases h with ⟨hh, rfl | rfl⟩ | ⟨hh, rfl⟩
  · simp [hh]; tauto
  · simp [hh]; tauto
  · simp [hh]; tauto

theorem nodup (h : Relisted r here l l') (hl : l.Nodup) : l'.Nodup := by
  have hw := nodup_without r hl
  have hm : r ∉ without r l := by simp
  rcases h with ⟨_, rfl | rfl⟩ | ⟨_, rfl⟩
  · exact List.nodup_cons.mpr ⟨hm, hw⟩
  · exact List.nodup_append.mpr ⟨hw, by simp, by simp⟩
  · exact hw

theorem length [Decidable here] (h : Relisted r here l l') (hl : l.Nodup) :
    l'.length + (if r ∈ l then 1 else 0) = l.length + if here then 1 else 0 := by
  have hw := length_without_add (r := r) hl
  rcases h with ⟨hh, rfl | rfl⟩ | ⟨hh, rfl⟩ <;> simp only [hh, if_true, if_false, List.length_cons, List.length_append,
    List.length_nil] <;> omega

end Relisted

/-! ## Places -/

/-- A place but for the time that remains there. -/
def Place.spot (p : Place) : Place :=
  match p with
  | .free => .free
  | .pending k => .pending k
  | .queued k c => .queued k c
  | .awaiting k c _ => .awaiting k c 0

theorem Place.free_iff_spot (p : Place) : p = .free ↔ p.spot = .free := by cases p <;> simp [Place.spot]

theorem Place.pending_iff_spot (p : Place) (k : ClassIdx) : p = .pending k ↔ p.spot = .pending k := by
  cases p <;> simp [Place.spot]

theorem Place.queued_iff_spot (p : Place) (c : ConsumerIdx) :
    (∃ k, p = .queued k c) ↔ ∃ k, p.spot = .queued k c := by
  cases p <;> simp [Place.spot]

theorem Place.awaiting_iff_spot (p : Place) (c : ConsumerIdx) :
    (∃ k d, p = .awaiting k c d) ↔ ∃ k, p.spot = .awaiting k c 0 := by
  cases p <;> simp [Place.spot]

@[simp] theorem Place.cls_spot (p : Place) : p.spot.cls = p.cls := by cases p <;> rfl

@[simp] theorem Place.dispatchedIn_spot (p : Place) (k : ClassIdx) : p.spot.dispatchedIn k = p.dispatchedIn k := by
  cases p <;> rfl

/-- A record of a class is pending there or dispatched. -/
theorem Place.cls_eq_some_iff (p : Place) (k : ClassIdx) :
    p.cls = some k ↔ p = .pending k ∨ p.dispatchedIn k = true := by
  cases p <;> simp [Place.cls, Place.dispatchedIn]

/-- The current consumer of a record is the one in whose lists it stands. -/
theorem Place.cur_eq_some_iff (p : Place) (c : ConsumerIdx) :
    p.cur = some c ↔ (∃ k, p = .queued k c) ∨ ∃ k d, p = .awaiting k c d := by
  cases p <;> simp [Place.cur]

/-! ## Nothing that the laws of the store speak of has changed -/

/-- The class has the same configuration and state. -/
structure SameRule (x y : ClassRecord) : Prop where
  config : y.config = x.config
  state : y.state = x.state
  purge : y.purge = x.purge

/-- The port has the same configuration and state. -/
structure SamePortRule (x y : Port) : Prop where
  window : y.window = x.window
  threshold : y.threshold = x.threshold
  state : y.state = x.state

theorem SameRule.refl (x : ClassRecord) : SameRule x x := ⟨rfl, rfl, rfl⟩

theorem SamePortRule.refl (x : Port) : SamePortRule x x := ⟨rfl, rfl, rfl⟩

/-- The device and the steering banks are configured as before. -/
structure SameDevice (s t : State) : Prop where
  device : t.device = s.device
  bankA : t.bankA = s.bankA
  bankB : t.bankB = s.bankB

/-- From `s` to `t` no record has moved, and nothing that the laws of the store speak of has changed, but perhaps the failed
attempts of record `y`. -/
structure SameStore (y : Option RecIdx) (s t : State) : Prop where
  spot : ∀ r, (t.rcd r).place.spot = (s.rcd r).place.spot
  failed : ∀ r, y ≠ some r → (t.rcd r).failed = (s.rcd r).failed
  freeList : t.freeList = s.freeList
  queue : ∀ k, t.queue k = s.queue k
  rule : ∀ k, SameRule (s.cls k) (t.cls k)
  pendingCount : ∀ k, (t.cls k).pendingCount = (s.cls k).pendingCount
  dispatchedCount : ∀ k, (t.cls k).dispatchedCount = (s.cls k).dispatchedCount
  portRule : ∀ c, SamePortRule (s.port c) (t.port c)
  tx : ∀ c, (t.port c).tx = (s.port c).tx
  waitingAck : ∀ c, (t.port c).waitingAck = (s.port c).waitingAck
  dispatched : ∀ c, (t.port c).dispatched = (s.port c).dispatched
  device : SameDevice s t

/-- Placement depends on the places and the lists alone. -/
theorem placed_congr {s t : State} (h : Placed s) (hp : ∀ r, (t.rcd r).place.spot = (s.rcd r).place.spot)
    (hf : t.freeList = s.freeList) (hq : ∀ k, t.queue k = s.queue k) (ht : ∀ c, (t.port c).tx = (s.port c).tx)
    (hw : ∀ c, (t.port c).waitingAck = (s.port c).waitingAck) : Placed t where
  free r := by rw [Place.free_iff_spot, hp, ← Place.free_iff_spot, h.free, hf]
  pending r k := by rw [Place.pending_iff_spot, hp, ← Place.pending_iff_spot, h.pending, hq]
  queued r c := by rw [Place.queued_iff_spot, hp, ← Place.queued_iff_spot, h.queued, ht]
  awaiting r c := by rw [Place.awaiting_iff_spot, hp, ← Place.awaiting_iff_spot, h.awaiting, hw]
  freeOnce := hf ▸ h.freeOnce
  queueOnce k := by rw [hq]; exact h.queueOnce k
  txOnce c := by rw [ht]; exact h.txOnce c
  awaitingOnce c := by rw [hw]; exact h.awaitingOnce c

theorem SameStore.placed {y : Option RecIdx} {s t : State} (h : SameStore y s t) (hp : Placed s) : Placed t :=
  placed_congr hp h.spot h.freeList h.queue h.tx h.waitingAck

/-! ## One record moves -/

/-- From `s` to `t` record `r` has moved to the collection of its new place, and every other record stands where it
stood. -/
structure Relocates (r : RecIdx) (s t : State) : Prop where
  others : ∀ q, q ≠ r → (t.rcd q).place = (s.rcd q).place
  free : Relisted r ((t.rcd r).place = .free) s.freeList t.freeList
  queue : ∀ k, Relisted r ((t.rcd r).place = .pending k) (s.queue k) (t.queue k)
  tx : ∀ c, Relisted r (∃ k, (t.rcd r).place = .queued k c) ((s.port c).tx.map (·.tag.index))
    ((t.port c).tx.map (·.tag.index))
  awaiting : ∀ c, Relisted r (∃ k d, (t.rcd r).place = .awaiting k c d) (s.port c).waitingAck (t.port c).waitingAck

/-- A statement about the place of a record and its collection, through the move of one record. -/
theorem Relisted.place_iff {r q : RecIdx} {s t : State} {P : Place → Prop} {l l' : List RecIdx}
    (h : Relisted r (P (t.rcd r).place) l l') (hq : q ≠ r → (t.rcd q).place = (s.rcd q).place)
    (hl : P (s.rcd q).place ↔ q ∈ l) : P (t.rcd q).place ↔ q ∈ l' := by
  rw [h.mem_iff q]
  by_cases e : q = r
  · subst e; simp
  · rw [hq e]; simp [e, hl]

/-- Moving one record keeps every record in exactly one collection. -/
theorem Relocates.placed {r : RecIdx} {s t : State} (h : Relocates r s t) (hp : Placed s) : Placed t where
  free q := (h.free.place_iff (P := fun p => p = .free)) (h.others q) (hp.free q)
  pending q k := ((h.queue k).place_iff (P := fun p => p = .pending k)) (h.others q) (hp.pending q k)
  queued q c := ((h.tx c).place_iff (P := fun p => ∃ k, p = .queued k c)) (h.others q) (hp.queued q c)
  awaiting q c :=
    ((h.awaiting c).place_iff (P := fun p => ∃ k d, p = .awaiting k c d)) (h.others q) (hp.awaiting q c)
  freeOnce := h.free.nodup hp.freeOnce
  queueOnce k := (h.queue k).nodup (hp.queueOnce k)
  txOnce c := (h.tx c).nodup (hp.txOnce c)
  awaitingOnce c := (h.awaiting c).nodup (hp.awaitingOnce c)

end Sys2Proof.Machine
end

section
/-! # The counts and limits of the Event Store -/

namespace Sys2Proof.Machine

/-! ## Counting the dispatched records of a class -/

/-- Counting over all records after a change at one of them. -/
theorem countP_finRange_move (r : RecIdx) {p p' : RecIdx → Bool} (h : ∀ q, q ≠ r → p' q = p q) :
    (List.finRange 512).countP p' + (if p r then 1 else 0) =
      (List.finRange 512).countP p + if p' r then 1 else 0 := by
  have hperm := List.perm_cons_erase (List.mem_finRange r)
  have htail : ((List.finRange 512).erase r).countP p' = ((List.finRange 512).erase r).countP p := by
    apply List.countP_congr
    intro q hq
    have hne : q ≠ r := ((List.nodup_finRange 512).mem_erase_iff.mp hq).1
    rw [h q hne]
  rw [hperm.countP_eq p, hperm.countP_eq p', List.countP_cons, List.countP_cons, htail]
  omega

theorem dispatchedOf_eq (s : State) (k : ClassIdx) :
    dispatchedOf s k = (List.finRange 512).countP fun r => (s.rcd r).place.dispatchedIn k := by
  have h : s.records.toList = (List.finRange 512).map s.rcd := by
    apply List.ext_getElem (by simp)
    intro i h1 h2
    simp [State.rcd, Tab.nth]
  rw [dispatchedOf, h, List.countP_map]
  rfl

theorem dispatchedOf_congr {s t : State} (h : ∀ r, (t.rcd r).place.spot = (s.rcd r).place.spot) (k : ClassIdx) :
    dispatchedOf t k = dispatchedOf s k := by
  rw [dispatchedOf_eq, dispatchedOf_eq]
  congr 1
  funext r
  rw [← Place.dispatchedIn_spot, h, Place.dispatchedIn_spot]

/-! ## The laws, within a claim -/

/-- The laws of the counts and limits as they stand within a claim. While the records of a consumer that is taken out of
service are returned, its state has changed and its count has not: `x` names that consumer. A failed attempt is charged
before the failure is decided: `y` names that record. -/
structure Laws (x : Option ConsumerIdx) (y : Option RecIdx) (s : State) : Prop where
  counted : Counted s
  classes : ClassesLawful s
  ports : ∀ c, x ≠ some c → (s.port c).state = .active ∨ (s.port c).state = .suspect ∨ (s.port c).dispatched = 0
  limits : WithinLimits s
  attempts : ∀ r k, y ≠ some r → (s.rcd r).place.cls = some k →
    (s.rcd r).failed.toNat < (s.cls k).config.attemptLimit.val
  configured : Configured s

/-- The laws hold within a claim as they hold outside. -/
theorem Laws.within {s : State} (h : Laws none none s) (x : Option ConsumerIdx) (y : Option RecIdx) : Laws x y s :=
  ⟨h.counted, h.classes, fun c _ => h.ports c (by simp), h.limits, fun r k _ => h.attempts r k (by simp), h.configured⟩

/-- The laws with a record set aside. -/
theorem Laws.aside {x : Option ConsumerIdx} {s : State} (h : Laws x none s) (y : Option RecIdx) : Laws x y s :=
  ⟨h.counted, h.classes, h.ports, h.limits, fun r k _ => h.attempts r k (by simp), h.configured⟩

theorem SameDevice.configured {s t : State} (h : SameDevice s t) (hr : ∀ k, SameRule (s.cls k) (t.cls k))
    (hp : ∀ c, SamePortRule (s.port c) (t.port c)) (hc : Configured s) : Configured t where
  device := by rw [h.device]; exact hc.device
  classes k := by rw [(hr k).config]; exact hc.classes k
  ports c := by rw [(hp c).window, (hp c).threshold]; exact hc.ports c
  bankA := by rw [h.bankA]; exact hc.bankA
  bankB := by rw [h.bankB]; exact hc.bankB

theorem SameStore.holding {y : Option RecIdx} {s t : State} (h : SameStore y s t) (k : ClassIdx) : t.holding k = s.holding k := by
  unfold State.holding
  rw [h.pendingCount, h.dispatchedCount]

theorem SameStore.laws {x : Option ConsumerIdx} {y : Option RecIdx} {s t : State} (h : SameStore y s t)
    (hl : Laws x y s) : Laws x y t where
  counted :=
    { pendingCount := fun k => by rw [h.pendingCount, h.queue]; exact hl.counted.pendingCount k
      dispatchedCount := fun k => by
        rw [h.dispatchedCount, dispatchedOf_congr h.spot]; exact hl.counted.dispatchedCount k
      dispatched := fun c => by rw [h.dispatched, h.tx, h.waitingAck]; exact hl.counted.dispatched c }
  classes k := by rw [h.holding, (h.rule k).state, (h.rule k).purge]; exact hl.classes k
  ports c := by rw [(h.portRule c).state, h.dispatched]; exact hl.ports c
  limits :=
    { pendingLimit := fun k => by rw [h.holding, (h.rule k).config]; exact hl.limits.pendingLimit k
      window := fun c => by rw [h.dispatched, (h.portRule c).window]; exact hl.limits.window c
      serial := fun k => by rw [(h.rule k).config, h.dispatchedCount]; exact hl.limits.serial k }
  attempts r k hy hk := by
    rw [← Place.cls_spot, h.spot, Place.cls_spot] at hk
    rw [h.failed r hy, (h.rule k).config]
    exact hl.attempts r k hy hk
  configured := h.device.configured h.rule h.portRule hl.configured

/-! ## One record moves -/

/-- The counts follow the move of record `r` from `s` to `t`, and no configuration and no state changes. -/
structure Recounts (r : RecIdx) (s t : State) : Prop where
  failed : ∀ q, q ≠ r → (t.rcd q).failed = (s.rcd q).failed
  rule : ∀ k, SameRule (s.cls k) (t.cls k)
  portRule : ∀ c, SamePortRule (s.port c) (t.port c)
  device : SameDevice s t
  pendingCount : ∀ k, (t.cls k).pendingCount + (if (s.rcd r).place = .pending k then 1 else 0) =
    (s.cls k).pendingCount + if (t.rcd r).place = .pending k then 1 else 0
  dispatchedCount : ∀ k, (t.cls k).dispatchedCount + (if (s.rcd r).place.dispatchedIn k then 1 else 0) =
    (s.cls k).dispatchedCount + if (t.rcd r).place.dispatchedIn k then 1 else 0
  dispatched : ∀ c, (t.port c).dispatched + (if (s.rcd r).place.cur = some c then 1 else 0) =
    (s.port c).dispatched + if (t.rcd r).place.cur = some c then 1 else 0

/-- The new place of record `r` is one that the limits leave open: a class or a consumer that it enters has room, and its
failed attempts are below the limit of its class. -/
structure Permitted (r : RecIdx) (s t : State) : Prop where
  room : ∀ k, (t.rcd r).place.cls = some k → (s.rcd r).place.cls = some k ∨
    ((s.cls k).state ≠ .disabled ∧ s.holding k < (s.cls k).config.pendingLimit.val)
  serial : ∀ k, (t.rcd r).place.dispatchedIn k = true → (s.rcd r).place.dispatchedIn k = true ∨
    ((s.cls k).config.order = .serial → (s.cls k).dispatchedCount = 0)
  window : ∀ c, (t.rcd r).place.cur = some c → (s.rcd r).place.cur = some c ∨
    ((s.port c).state = .active ∧ (s.port c).dispatched < (s.port c).window.val)
  attempts : ∀ k, (t.rcd r).place.cls = some k → (t.rcd r).failed.toNat < (s.cls k).config.attemptLimit.val

/-- A record that becomes FREE enters no class and no consumer. -/
theorem Permitted.ofFree {r : RecIdx} {s t : State} (h : (t.rcd r).place = .free) : Permitted r s t where
  room k hk := by simp [h, Place.cls] at hk
  serial k hk := by simp [h, Place.dispatchedIn] at hk
  window c hc := by simp [h, Place.cur] at hc
  attempts k hk := by simp [h, Place.cls] at hk

section

variable {r : RecIdx} {s t : State}

/-- A record counts once where its class holds it. -/
theorem Place.holding_count (p : Place) (k : ClassIdx) :
    (if p.cls = some k then 1 else 0) = (if p = .pending k then 1 else 0) + if p.dispatchedIn k then 1 else 0 := by
  cases p <;> simp [Place.cls, Place.dispatchedIn]

theorem Recounts.holding (h : Recounts r s t) (k : ClassIdx) :
    t.holding k + (if (s.rcd r).place.cls = some k then 1 else 0) =
      s.holding k + if (t.rcd r).place.cls = some k then 1 else 0 := by
  have hp := h.pendingCount k
  have hd := h.dispatchedCount k
  rw [Place.holding_count, Place.holding_count]
  unfold State.holding
  omega

theorem Relocates.pendingLength (h : Relocates r s t) (hp : Placed s) (k : ClassIdx) :
    (t.queue k).length + (if (s.rcd r).place = .pending k then 1 else 0) =
      (s.queue k).length + if (t.rcd r).place = .pending k then 1 else 0 := by
  have := (h.queue k).length (hp.queueOnce k)
  simpa only [← hp.pending] using this

theorem Relocates.dispatchedOf (h : Relocates r s t) (k : ClassIdx) :
    dispatchedOf t k + (if (s.rcd r).place.dispatchedIn k then 1 else 0) =
      dispatchedOf s k + if (t.rcd r).place.dispatchedIn k then 1 else 0 := by
  rw [dispatchedOf_eq, dispatchedOf_eq]
  exact countP_finRange_move r (p := fun q => (s.rcd q).place.dispatchedIn k)
    (p' := fun q => (t.rcd q).place.dispatchedIn k) fun q hq => by rw [h.others q hq]

open Classical in
/-- A record counts once at its current consumer, in one of the two lists. -/
theorem Place.cur_count (p : Place) (c : ConsumerIdx) :
    (if p.cur = some c then 1 else 0) =
      (if ∃ k, p = .queued k c then 1 else 0) + if ∃ k d, p = .awaiting k c d then 1 else 0 := by
  cases p <;> simp [Place.cur]

theorem Relocates.consumerLength (h : Relocates r s t) (hp : Placed s) (c : ConsumerIdx) :
    (t.port c).tx.length + (t.port c).waitingAck.length + (if (s.rcd r).place.cur = some c then 1 else 0) =
      (s.port c).tx.length + (s.port c).waitingAck.length + if (t.rcd r).place.cur = some c then 1 else 0 := by
  classical
  have ht := (h.tx c).length (hp.txOnce c)
  have ha := (h.awaiting c).length (hp.awaitingOnce c)
  simp only [← hp.queued, List.length_map] at ht
  simp only [← hp.awaiting] at ha
  rw [Place.cur_count, Place.cur_count]
  omega

theorem Relocates.counted (h : Relocates r s t) (g : Recounts r s t) (hp : Placed s) (hc : Counted s) : Counted t where
  pendingCount k := by
    have := h.pendingLength hp k
    have := g.pendingCount k
    have := hc.pendingCount k
    omega
  dispatchedCount k := by
    have := h.dispatchedOf k
    have := g.dispatchedCount k
    have := hc.dispatchedCount k
    omega
  dispatched c := by
    have := h.consumerLength hp c
    have := g.dispatched c
    have := hc.dispatched c
    omega

/-- Moving one record to a place that the limits leave open keeps the laws of the counts and limits. -/
theorem Relocates.laws {x : Option ConsumerIdx} (h : Relocates r s t) (g : Recounts r s t) (a : Permitted r s t)
    (hp : Placed s) (hl : Laws x (some r) s) : Laws x none t where
  counted := h.counted g hp hl.counted
  classes k := by
    rw [(g.rule k).state, (g.rule k).purge]
    refine ⟨fun hk => ?_, (hl.classes k).2⟩
    have hs := (hl.classes k).1 hk
    have hh := g.holding k
    have hr : (t.rcd r).place.cls = some k → (s.rcd r).place.cls = some k := fun e =>
      (a.room k e).resolve_right fun b => b.1 hk
    split_ifs at hh with h1 h2 h2
    · omega
    · omega
    · exact absurd (hr h2) h1
    · omega
  ports c hx := by
    rw [(g.portRule c).state]
    rcases hl.ports c hx with hs | hs | hs
    · exact Or.inl hs
    · exact Or.inr (Or.inl hs)
    · have hd := g.dispatched c
      by_cases h2 : (t.rcd r).place.cur = some c
      · rcases a.window c h2 with h1 | h1
        · rw [if_pos h1, if_pos h2] at hd
          exact Or.inr (Or.inr (by omega))
        · exact Or.inl h1.1
      · rw [if_neg h2] at hd
        exact Or.inr (Or.inr (by omega))
  limits :=
    { pendingLimit := fun k => by
        rw [(g.rule k).config]
        have hs := hl.limits.pendingLimit k
        have hh := g.holding k
        by_cases h2 : (t.rcd r).place.cls = some k
        · rcases a.room k h2 with h1 | h1
          · rw [if_pos h1, if_pos h2] at hh
            omega
          · rw [if_pos h2] at hh
            omega
        · rw [if_neg h2] at hh
          omega
      window := fun c => by
        rw [(g.portRule c).window]
        have hs := hl.limits.window c
        have hd := g.dispatched c
        by_cases h2 : (t.rcd r).place.cur = some c
        · rcases a.window c h2 with h1 | h1
          · rw [if_pos h1, if_pos h2] at hd
            omega
          · rw [if_pos h2] at hd
            omega
        · rw [if_neg h2] at hd
          omega
      serial := fun k ho => by
        rw [(g.rule k).config] at ho
        have hs := hl.limits.serial k ho
        have hd := g.dispatchedCount k
        by_cases h2 : (t.rcd r).place.dispatchedIn k = true
        · rcases a.serial k h2 with h1 | h1
          · rw [if_pos h1, if_pos h2] at hd
            omega
          · have := h1 ho
            rw [if_pos h2] at hd
            omega
        · rw [if_neg h2] at hd
          omega }
  attempts q k _ hk := by
    rw [(g.rule k).config]
    by_cases hq : q = r
    · subst hq
      exact a.attempts k hk
    · rw [h.others q hq] at hk
      rw [g.failed q hq]
      exact hl.attempts q k (fun e => hq (Option.some.inj e).symm) hk
  configured := g.device.configured g.rule g.portRule hl.configured

end

end Sys2Proof.Machine
end

section
/-! # The claims on the Event Store as moves of one record -/

namespace Sys2Proof.Machine

/-! ## Reading the parts of a claim -/

section

variable (s : State) (r q : RecIdx) (c d : ConsumerIdx) (k : ClassIdx)

@[simp] theorem joinFreeList_rcd : (joinFreeList r s).rcd q = if q = r then (s.rcd q).freed else s.rcd q :=
  State.modRec_rcd s r _ q

@[simp] theorem joinFreeList_freeList : (joinFreeList r s).freeList = s.freeList ++ [r] := rfl

@[simp] theorem joinFreeList_queue : (joinFreeList r s).queue k = s.queue k := rfl

@[simp] theorem joinFreeList_cls : (joinFreeList r s).cls k = s.cls k := rfl

@[simp] theorem joinFreeList_port : (joinFreeList r s).port c = s.port c := rfl

@[simp] theorem dropDispatch_rcd : (dropDispatch c r s).rcd q = s.rcd q := rfl

@[simp] theorem dropDispatch_freeList : (dropDispatch c r s).freeList = s.freeList := rfl

@[simp] theorem dropDispatch_queue : (dropDispatch c r s).queue k = s.queue k := rfl

@[simp] theorem dropDispatch_cls : (dropDispatch c r s).cls k = s.cls k := rfl

theorem dropDispatch_port : (dropDispatch c r s).port d =
    if d = c then
      { s.port d with
        tx := withoutDeliver r (s.port d).tx, waitingAck := without r (s.port d).waitingAck
        dispatched := (s.port d).dispatched - 1 }
    else s.port d :=
  State.modPort_port s c _ d

@[simp] theorem EventRecord.freed_place (e : EventRecord) : e.freed.place = .free := rfl

end

/-! ## Where a record does not stand, and what its place counts -/

section

variable {s : State} {r : RecIdx} {k : ClassIdx} {c : ConsumerIdx}

theorem DispatchedTo.cur (h : DispatchedTo s r k c) : (s.rcd r).place.cur = some c := by
  rcases h with h | ⟨d, h⟩ <;> simp [h, Place.cur]

theorem DispatchedTo.cls (h : DispatchedTo s r k c) : (s.rcd r).place.cls = some k := by
  rcases h with h | ⟨d, h⟩ <;> simp [h, Place.cls]

theorem DispatchedTo.dispatchedIn_iff (h : DispatchedTo s r k c) (j : ClassIdx) :
    (s.rcd r).place.dispatchedIn j = true ↔ j = k := by
  have e : (s.rcd r).place.dispatchedIn j = (k == j) := by rcases h with h | ⟨d, h⟩ <;> rw [h] <;> rfl
  rw [e, beq_iff_eq]
  exact eq_comm

theorem DispatchedTo.not_pending (h : DispatchedTo s r k c) (j : ClassIdx) : (s.rcd r).place ≠ .pending j := by
  rcases h with h | ⟨d, h⟩ <;> simp [h]

theorem Placed.notMem_freeList (hp : Placed s) (h : (s.rcd r).place.cls = some k) : r ∉ s.freeList := fun e => by
  rw [(hp.free r).mpr e] at h
  cases h

theorem Placed.notMem_queue (hp : Placed s) (h : (s.rcd r).place ≠ .pending k) : r ∉ s.queue k := fun e =>
  h ((hp.pending r k).mpr e)

theorem Placed.notMem_tx (hp : Placed s) (h : (s.rcd r).place.cur ≠ some c) :
    r ∉ (s.port c).tx.map (·.tag.index) := fun e =>
  h ((Place.cur_eq_some_iff _ _).mpr (Or.inl ((hp.queued r c).mpr e)))

theorem Placed.notMem_waitingAck (hp : Placed s) (h : (s.rcd r).place.cur ≠ some c) : r ∉ (s.port c).waitingAck :=
  fun e => h ((Place.cur_eq_some_iff _ _).mpr (Or.inr ((hp.awaiting r c).mpr e)))

theorem Counted.pendingCount_pos (hc : Counted s) (hp : Placed s) (h : (s.rcd r).place = .pending k) :
    0 < (s.cls k).pendingCount := by
  rw [hc.pendingCount]
  exact List.length_pos_of_mem ((hp.pending r k).mp h)

theorem Counted.dispatchedCount_pos (hc : Counted s) (h : (s.rcd r).place.dispatchedIn k = true) :
    0 < (s.cls k).dispatchedCount := by
  rw [hc.dispatchedCount, dispatchedOf_eq, List.countP_pos_iff]
  exact ⟨r, List.mem_finRange r, h⟩

theorem Counted.dispatched_pos (hc : Counted s) (hp : Placed s) (h : (s.rcd r).place.cur = some c) :
    0 < (s.port c).dispatched := by
  rw [hc.dispatched]
  rcases (Place.cur_eq_some_iff _ _).mp h with e | e
  · have := List.length_pos_of_mem ((hp.queued r c).mp e)
    rw [List.length_map] at this
    omega
  · have := List.length_pos_of_mem ((hp.awaiting r c).mp e)
    omega

end

/-! ## A record leaves its consumer -/

section

variable {s t : State} {r : RecIdx} {k : ClassIdx} {c : ConsumerIdx}

/-- Record `r` has left the lists of consumer `c`, and no other port has changed. -/
def DroppedAt (c : ConsumerIdx) (r : RecIdx) (s t : State) : Prop := ∀ d, t.port d = (dropDispatch c r s).port d

theorem DroppedAt.tx (h : DroppedAt c r s t) (hp : Placed s) (hr : (s.rcd r).place.cur = some c)
    (ht : (t.rcd r).place.cur = none) (d : ConsumerIdx) :
    Relisted r (∃ k, (t.rcd r).place = .queued k d) ((s.port d).tx.map (·.tag.index))
      ((t.port d).tx.map (·.tag.index)) := by
  have hn : ¬ ∃ k, (t.rcd r).place = .queued k d := by
    rintro ⟨k, e⟩
    simp [e, Place.cur] at ht
  rw [h d, dropDispatch_port]
  by_cases hd : d = c
  · subst hd
    rw [if_pos rfl]
    dsimp only
    rw [map_withoutDeliver]
    exact .removed hn
  · rw [if_neg hd]
    exact .unchanged (hp.notMem_tx fun e => hd (Option.some.inj (e.symm.trans hr))) hn

theorem DroppedAt.awaiting (h : DroppedAt c r s t) (hp : Placed s) (hr : (s.rcd r).place.cur = some c)
    (ht : (t.rcd r).place.cur = none) (d : ConsumerIdx) :
    Relisted r (∃ k x, (t.rcd r).place = .awaiting k d x) (s.port d).waitingAck (t.port d).waitingAck := by
  have hn : ¬ ∃ k x, (t.rcd r).place = .awaiting k d x := by
    rintro ⟨k, x, e⟩
    simp [e, Place.cur] at ht
  rw [h d, dropDispatch_port]
  by_cases hd : d = c
  · subst hd
    rw [if_pos rfl]
    exact .removed hn
  · rw [if_neg hd]
    exact .unchanged (hp.notMem_waitingAck fun e => hd (Option.some.inj (e.symm.trans hr))) hn

theorem DroppedAt.portRule (h : DroppedAt c r s t) (d : ConsumerIdx) : SamePortRule (s.port d) (t.port d) := by
  rw [h d, dropDispatch_port]
  split <;> exact ⟨rfl, rfl, rfl⟩

theorem DroppedAt.dispatched (h : DroppedAt c r s t) (hp : Placed s) (hc : Counted s)
    (hr : (s.rcd r).place.cur = some c) (ht : (t.rcd r).place.cur = none) (d : ConsumerIdx) :
    (t.port d).dispatched + (if (s.rcd r).place.cur = some d then 1 else 0) =
      (s.port d).dispatched + if (t.rcd r).place.cur = some d then 1 else 0 := by
  have hpos := hc.dispatched_pos hp hr
  rw [h d, dropDispatch_port, hr, ht]
  by_cases hd : d = c
  · subst hd
    simp
    omega
  · simp [hd, Ne.symm hd]

end

/-! ## Freeing a dispatched record -/

/-- A dispatched record leaves its consumer and joins the free list, before the drain rule and the hold rule. -/
def freeDispatched (k : ClassIdx) (c : ConsumerIdx) (r : RecIdx) (s : State) : State :=
  joinFreeList r ((dropDispatch c r s).modClass k fun x => { x with dispatchedCount := x.dispatchedCount - 1 })

/-- A pending record leaves its queue and joins the free list, before the drain rule and the hold rule. -/
def freePending (k : ClassIdx) (r : RecIdx) (s : State) : State :=
  joinFreeList r ((s.modQueue k (without r)).modClass k fun x => { x with pendingCount := x.pendingCount - 1 })

section

variable {s : State} {r : RecIdx} {k : ClassIdx} {c : ConsumerIdx}

theorem freeRecord_eq_dispatched (h : DispatchedTo s r k c) :
    freeRecord r s = applyHold (drainCheck k (freeDispatched k c r s)) := by
  unfold freeRecord
  rcases h with h | ⟨d, h⟩ <;> rw [h] <;> rfl

theorem freeRecord_eq_pending (h : (s.rcd r).place = .pending k) :
    freeRecord r s = applyHold (drainCheck k (freePending k r s)) := by
  unfold freeRecord
  rw [h]
  rfl

theorem freeRecord_eq_free (h : (s.rcd r).place = .free) : freeRecord r s = s := by
  unfold freeRecord
  rw [h]

theorem freeDispatched_rcd (q : RecIdx) :
    (freeDispatched k c r s).rcd q = if q = r then (s.rcd q).freed else s.rcd q := by
  simp [freeDispatched]

theorem freeDispatched_cls (j : ClassIdx) : (freeDispatched k c r s).cls j =
    if j = k then { s.cls j with dispatchedCount := (s.cls j).dispatchedCount - 1 } else s.cls j := by
  simp [freeDispatched, State.modClass_cls]

theorem freeDispatched_dropped : DroppedAt c r s (freeDispatched k c r s) := fun _ => rfl

theorem freeDispatched_place : ((freeDispatched k c r s).rcd r).place = .free := by simp [freeDispatched_rcd]

theorem freeDispatched_relocates (hp : Placed s) (h : DispatchedTo s r k c) :
    Relocates r s (freeDispatched k c r s) where
  others q hq := by rw [freeDispatched_rcd, if_neg hq]
  free := .toTail (hp.notMem_freeList h.cls) freeDispatched_place
  queue j := .unchanged (hp.notMem_queue (h.not_pending j)) (by simp [freeDispatched_place])
  tx := freeDispatched_dropped.tx hp h.cur (by simp [freeDispatched_place, Place.cur])
  awaiting := freeDispatched_dropped.awaiting hp h.cur (by simp [freeDispatched_place, Place.cur])

theorem freeDispatched_recounts (hp : Placed s) (hc : Counted s) (h : DispatchedTo s r k c) :
    Recounts r s (freeDispatched k c r s) where
  failed q hq := by rw [freeDispatched_rcd, if_neg hq]
  rule j := by
    rw [freeDispatched_cls]
    split <;> exact ⟨rfl, rfl, rfl⟩
  portRule := freeDispatched_dropped.portRule
  device := ⟨rfl, rfl, rfl⟩
  pendingCount j := by
    rw [freeDispatched_cls, freeDispatched_place, if_neg (h.not_pending j)]
    split <;> simp
  dispatchedCount j := by
    have hpos := hc.dispatchedCount_pos ((h.dispatchedIn_iff k).mpr rfl)
    simp only [freeDispatched_cls, freeDispatched_place, h.dispatchedIn_iff j]
    by_cases hj : j = k
    · subst hj
      simp [Place.dispatchedIn]
      omega
    · simp [hj, Place.dispatchedIn]
  dispatched := freeDispatched_dropped.dispatched hp hc h.cur (by simp [freeDispatched_place, Place.cur])

/-! ## Freeing a pending record -/

theorem freePending_rcd (q : RecIdx) :
    (freePending k r s).rcd q = if q = r then (s.rcd q).freed else s.rcd q := by
  simp [freePending]

theorem freePending_cls (j : ClassIdx) : (freePending k r s).cls j =
    if j = k then { s.cls j with pendingCount := (s.cls j).pendingCount - 1 } else s.cls j := by
  simp [freePending, State.modClass_cls]

theorem freePending_queue (j : ClassIdx) :
    (freePending k r s).queue j = if j = k then without r (s.queue j) else s.queue j := by
  simp [freePending, State.modQueue_queue]

theorem freePending_place : ((freePending k r s).rcd r).place = .free := by simp [freePending_rcd]

theorem freePending_relocates (hp : Placed s) (h : (s.rcd r).place = .pending k) :
    Relocates r s (freePending k r s) where
  others q hq := by rw [freePending_rcd, if_neg hq]
  free := .toTail (hp.notMem_freeList (k := k) (by simp [h, Place.cls])) freePending_place
  queue j := by
    rw [freePending_queue]
    have hn : ¬ ((freePending k r s).rcd r).place = .pending j := by simp [freePending_place]
    split
    · exact .removed hn
    · rename_i hj
      exact .unchanged (hp.notMem_queue (by simp [h, Ne.symm hj])) hn
  tx d := .unchanged (hp.notMem_tx (by simp [h, Place.cur])) (by simp [freePending_place])
  awaiting d := .unchanged (hp.notMem_waitingAck (by simp [h, Place.cur])) (by simp [freePending_place])

theorem freePending_recounts (hp : Placed s) (hc : Counted s) (h : (s.rcd r).place = .pending k) :
    Recounts r s (freePending k r s) where
  failed q hq := by rw [freePending_rcd, if_neg hq]
  rule j := by
    rw [freePending_cls]
    split <;> exact ⟨rfl, rfl, rfl⟩
  portRule d := .refl _
  device := ⟨rfl, rfl, rfl⟩
  pendingCount j := by
    have hpos := hc.pendingCount_pos hp h
    rw [freePending_cls, freePending_place, h]
    by_cases hj : j = k
    · subst hj
      simp
      omega
    · simp [hj, Ne.symm hj]
  dispatchedCount j := by
    rw [freePending_cls, freePending_place, h]
    split <;> simp [Place.dispatchedIn]
  dispatched d := by
    rw [freePending_place, h]
    simp [Place.cur, freePending]

end

/-! ## Returning a record -/

section

variable {s : State} {r : RecIdx} {k : ClassIdx} {c : ConsumerIdx}

theorem returnRecord_rcd (h : DispatchedTo s r k c) (q : RecIdx) : (returnRecord r s).rcd q =
    if q = r then { s.rcd q with place := .pending k, tried := addTo (s.rcd q).tried c.val } else s.rcd q := by
  rw [returnRecord_dispatched h]
  exact State.modRec_rcd s r _ q

theorem returnRecord_queue (h : DispatchedTo s r k c) (j : ClassIdx) :
    (returnRecord r s).queue j = if j = k then r :: s.queue j else s.queue j := by
  rw [returnRecord_dispatched h]
  exact State.modQueue_queue s k _ j

theorem returnRecord_cls (h : DispatchedTo s r k c) (j : ClassIdx) : (returnRecord r s).cls j =
    if j = k then
      { s.cls j with
        dispatchedCount := (s.cls j).dispatchedCount - 1, pendingCount := (s.cls j).pendingCount + 1 }
    else s.cls j := by
  rw [returnRecord_dispatched h]
  exact State.modClass_cls s k _ j

theorem returnRecord_dropped (h : DispatchedTo s r k c) : DroppedAt c r s (returnRecord r s) := fun d => by
  rw [returnRecord_dispatched h]
  rfl

theorem returnRecord_place (h : DispatchedTo s r k c) : ((returnRecord r s).rcd r).place = .pending k := by
  simp [returnRecord_rcd h]

theorem returnRecord_relocates (hp : Placed s) (h : DispatchedTo s r k c) : Relocates r s (returnRecord r s) where
  others q hq := by rw [returnRecord_rcd h, if_neg hq]
  free := by
    rw [returnRecord_place h, returnRecord_frame]
    exact .unchanged (hp.notMem_freeList h.cls) (by simp)
  queue j := by
    rw [returnRecord_place h, returnRecord_queue h]
    split
    · rename_i hj
      subst hj
      exact .toHead (hp.notMem_queue (h.not_pending j)) rfl
    · rename_i hj
      exact .unchanged (hp.notMem_queue (h.not_pending j)) (by simp [Ne.symm hj])
  tx := (returnRecord_dropped h).tx hp h.cur (by simp [returnRecord_place h, Place.cur])
  awaiting := (returnRecord_dropped h).awaiting hp h.cur (by simp [returnRecord_place h, Place.cur])

theorem returnRecord_recounts (hp : Placed s) (hc : Counted s) (h : DispatchedTo s r k c) :
    Recounts r s (returnRecord r s) where
  failed q hq := by rw [returnRecord_rcd h, if_neg hq]
  rule j := by
    rw [returnRecord_cls h]
    split <;> exact ⟨rfl, rfl, rfl⟩
  portRule := (returnRecord_dropped h).portRule
  device := by
    rw [returnRecord_frame]
    exact ⟨rfl, rfl, rfl⟩
  pendingCount j := by
    rw [returnRecord_cls h, returnRecord_place h, if_neg (h.not_pending j)]
    by_cases hj : j = k
    · simp [hj]
    · simp [hj, Ne.symm hj]
  dispatchedCount j := by
    have hpos := hc.dispatchedCount_pos ((h.dispatchedIn_iff k).mpr rfl)
    simp only [returnRecord_cls h, returnRecord_place h, h.dispatchedIn_iff j]
    by_cases hj : j = k
    · subst hj
      simp [Place.dispatchedIn]
      omega
    · simp [hj, Place.dispatchedIn]
  dispatched := (returnRecord_dropped h).dispatched hp hc h.cur (by simp [returnRecord_place h, Place.cur])

/-- A returned record stays in its class, and enters no consumer. -/
theorem returnRecord_permitted (h : DispatchedTo s r k c)
    (hf : (s.rcd r).failed.toNat < (s.cls k).config.attemptLimit.val) : Permitted r s (returnRecord r s) where
  room j hj := by
    simp only [returnRecord_place h, Place.cls] at hj
    exact Or.inl (h.cls.trans hj)
  serial j hj := by simp [returnRecord_place h, Place.dispatchedIn] at hj
  window d hd := by simp [returnRecord_place h, Place.cur] at hd
  attempts j hj := by
    simp only [returnRecord_place h, Place.cls, Option.some.injEq] at hj
    subst hj
    simpa [returnRecord_rcd h] using hf

end

end Sys2Proof.Machine
end

section
/-! # Grants, sends, and the path of an EVENT as moves of one record -/

namespace Sys2Proof.Machine

/-! ## What a grant leaves -/

section

variable {s : State} {r : RecIdx} {k : ClassIdx} {c : ConsumerIdx} {rest : List RecIdx}

/-- A grant, in full (R10, R115). -/
theorem grantRecord_eq (k : ClassIdx) (c : ConsumerIdx) (r : RecIdx) (rest : List RecIdx) (s : State) :
    grantRecord k c r rest s =
      { s with
        levels := (clearPointer r s).levels
        records := Tab.upd s.records r fun e => e.granted k c
        queues := Tab.upd s.queues k fun _ => rest
        classes := Tab.upd s.classes k fun x =>
          { x with pendingCount := x.pendingCount - 1, dispatchedCount := x.dispatchedCount + 1 }
        ports := Tab.upd s.ports c fun p =>
          { p with
            tx := p.tx ++ [deliverOf ((s.rcd r).granted k c) k r], dispatched := p.dispatched + 1 }
        grantOrder := (s.grantOrder.filter fun d => d != c) ++ [c]
        pointers := Tab.put s.pointers (s.cls k).config.priority (k + 1) } := by
  have hp : ((((clearPointer r s).modRec r fun e => e.granted k c).modQueue k fun _ => rest).modClass k fun x =>
      { x with pendingCount := x.pendingCount - 1, dispatchedCount := x.dispatchedCount + 1 }).cls k =
      { s.cls k with
        pendingCount := (s.cls k).pendingCount - 1, dispatchedCount := (s.cls k).dispatchedCount + 1 } :=
    State.modClass_cls_same _ k _
  unfold grantRecord
  simp only [State.modPort_cls, hp]
  simp only [State.modPort, State.modClass, State.modQueue, State.modRec, clearPointer, State.modLevel]

theorem grantRecord_rcd (q : RecIdx) :
    (grantRecord k c r rest s).rcd q = if q = r then (s.rcd q).granted k c else s.rcd q := by
  rw [grantRecord_eq]
  exact Tab.nth_upd _ _ _ _

theorem grantRecord_freeList : (grantRecord k c r rest s).freeList = s.freeList := by rw [grantRecord_eq]

theorem grantRecord_queue (j : ClassIdx) :
    (grantRecord k c r rest s).queue j = if j = k then rest else s.queue j := by
  rw [grantRecord_eq]
  exact Tab.nth_upd _ _ _ _

theorem grantRecord_cls (j : ClassIdx) : (grantRecord k c r rest s).cls j =
    if j = k then
      { s.cls j with
        pendingCount := (s.cls j).pendingCount - 1, dispatchedCount := (s.cls j).dispatchedCount + 1 }
    else s.cls j := by
  rw [grantRecord_eq]
  exact Tab.nth_upd _ _ _ _

theorem grantRecord_port (d : ConsumerIdx) : (grantRecord k c r rest s).port d =
    if d = c then
      { s.port d with
        tx := (s.port d).tx ++ [deliverOf ((s.rcd r).granted k c) k r], dispatched := (s.port d).dispatched + 1 }
    else s.port d := by
  rw [grantRecord_eq]
  exact Tab.nth_upd _ _ _ _

theorem grantRecord_place : ((grantRecord k c r rest s).rcd r).place = .queued k c := by
  simp [grantRecord_rcd, EventRecord.granted]

theorem Placed.head_pending (hp : Placed s) (hq : s.queue k = r :: rest) : (s.rcd r).place = .pending k :=
  (hp.pending r k).mpr (by simp [hq])

theorem Placed.head_without (hp : Placed s) (hq : s.queue k = r :: rest) : without r (s.queue k) = rest := by
  have := hp.queueOnce k
  rw [hq] at this ⊢
  exact without_head this

theorem grantRecord_relocates (hp : Placed s) (hq : s.queue k = r :: rest) :
    Relocates r s (grantRecord k c r rest s) where
  others q h := by rw [grantRecord_rcd, if_neg h]
  free := by
    rw [grantRecord_freeList]
    exact .unchanged (hp.notMem_freeList (k := k) (by simp [hp.head_pending hq, Place.cls]))
      (by simp [grantRecord_place])
  queue j := by
    rw [grantRecord_queue]
    have hn : ¬ ((grantRecord k c r rest s).rcd r).place = .pending j := by simp [grantRecord_place]
    by_cases hj : j = k
    · subst hj
      rw [if_pos rfl, ← hp.head_without hq]
      exact .removed hn
    · rw [if_neg hj]
      exact .unchanged (hp.notMem_queue (by simp [hp.head_pending hq, Ne.symm hj])) hn
  tx d := by
    have hm : r ∉ (s.port d).tx.map (·.tag.index) := hp.notMem_tx (by simp [hp.head_pending hq, Place.cur])
    rw [grantRecord_place, grantRecord_port]
    by_cases hd : d = c
    · rw [if_pos hd, List.map_append]
      exact .toTail hm ⟨k, by rw [hd]⟩
    · rw [if_neg hd]
      exact .unchanged hm (by simp [Ne.symm hd])
  awaiting d := by
    have hm : r ∉ (s.port d).waitingAck := hp.notMem_waitingAck (by simp [hp.head_pending hq, Place.cur])
    rw [grantRecord_place, grantRecord_port]
    split <;> exact .unchanged hm (by simp)

theorem grantRecord_recounts (hp : Placed s) (hc : Counted s) (hq : s.queue k = r :: rest) :
    Recounts r s (grantRecord k c r rest s) where
  failed q h := by rw [grantRecord_rcd, if_neg h]
  rule j := by
    rw [grantRecord_cls]
    split <;> exact ⟨rfl, rfl, rfl⟩
  portRule d := by
    rw [grantRecord_port]
    split <;> exact ⟨rfl, rfl, rfl⟩
  device := by
    rw [grantRecord_eq]
    exact ⟨rfl, rfl, rfl⟩
  pendingCount j := by
    have hpos := hc.pendingCount_pos hp (hp.head_pending hq)
    rw [grantRecord_cls, grantRecord_place, hp.head_pending hq]
    by_cases hj : j = k
    · subst hj
      simp
      omega
    · simp [hj, Ne.symm hj]
  dispatchedCount j := by
    rw [grantRecord_cls, grantRecord_place, hp.head_pending hq]
    by_cases hj : j = k
    · simp [hj, Place.dispatchedIn]
    · simp [hj, Ne.symm hj, Place.dispatchedIn]
  dispatched d := by
    rw [grantRecord_port, grantRecord_place, hp.head_pending hq]
    by_cases hd : d = c
    · simp [hd, Place.cur]
    · simp [hd, Ne.symm hd, Place.cur]

/-- A contender that grants to a candidate keeps SERIAL classes and windows within their limits (R107, R112). -/
theorem grantRecord_permitted {y : Option RecIdx} {x : Option ConsumerIdx} (hp : Placed s) (hl : Laws x y s)
    (hy : y ≠ some r) (hq : s.queue k = r :: rest) (hk : isContender s k = true) (hc : isCandidate s k c = true) :
    Permitted r s (grantRecord k c r rest s) where
  room j hj := by
    simp only [grantRecord_place, Place.cls] at hj
    exact Or.inl (by rw [hp.head_pending hq]; exact hj)
  serial j hj := by
    obtain rfl : k = j := by simpa [grantRecord_place, Place.dispatchedIn] using hj
    refine Or.inr fun ho => ?_
    simp only [isContender, Bool.and_eq_true, Bool.or_eq_true, beq_iff_eq, ho] at hk
    exact hk.1.2.resolve_left (by simp)
  window d hd := by
    obtain rfl : c = d := by simpa [grantRecord_place, Place.cur] using hd
    simp only [isCandidate, Bool.and_eq_true, beq_iff_eq, decide_eq_true_eq] at hc
    exact Or.inr ⟨hc.1.2, hc.2⟩
  attempts j hj := by
    obtain rfl : k = j := by simpa [grantRecord_place, Place.cls] using hj
    have := hl.attempts r k hy (by simp [hp.head_pending hq, Place.cls])
    simpa [grantRecord_rcd, EventRecord.granted] using this

end

/-! ## What the end of a DELIVER leaves -/

section

variable {s : State} {r : RecIdx} {k : ClassIdx} {c : ConsumerIdx}

theorem sendRecord_rcd (q : RecIdx) : (sendRecord c k r s).rcd q =
    if q = r then { s.rcd q with place := .awaiting k c (ackSpan s k) } else s.rcd q :=
  State.modRec_rcd s r _ q

theorem sendRecord_port (d : ConsumerIdx) : (sendRecord c k r s).port d =
    if d = c then
      { s.port d with
        tx := withoutDeliver r (s.port d).tx, waitingAck := (s.port d).waitingAck ++ [r]
        deliversSent := satUp (s.port d).deliversSent }
    else s.port d :=
  State.modPort_port _ c _ d

theorem sendRecord_place : ((sendRecord c k r s).rcd r).place = .awaiting k c (ackSpan s k) := by
  simp [sendRecord_rcd]

theorem sendRecord_relocates (hp : Placed s) (h : (s.rcd r).place = .queued k c) :
    Relocates r s (sendRecord c k r s) where
  others q hq := by rw [sendRecord_rcd, if_neg hq]
  free := .unchanged (hp.notMem_freeList (k := k) (by simp [h, Place.cls])) (by simp [sendRecord_place])
  queue j := .unchanged (hp.notMem_queue (by simp [h])) (by simp [sendRecord_place])
  tx d := by
    rw [sendRecord_place, sendRecord_port]
    by_cases hd : d = c
    · rw [if_pos hd]
      dsimp only
      rw [map_withoutDeliver]
      exact .removed (by simp)
    · rw [if_neg hd]
      exact .unchanged (hp.notMem_tx (by simp [h, Place.cur, Ne.symm hd])) (by simp)
  awaiting d := by
    have hm : r ∉ (s.port d).waitingAck := fun e => by
      obtain ⟨j, x, hx⟩ := (hp.awaiting r d).mpr e
      rw [h] at hx
      cases hx
    rw [sendRecord_place, sendRecord_port]
    by_cases hd : d = c
    · rw [if_pos hd]
      exact .toTail hm ⟨k, _, by rw [hd]⟩
    · rw [if_neg hd]
      exact .unchanged hm (by simp [Ne.symm hd])

theorem sendRecord_recounts (h : (s.rcd r).place = .queued k c) : Recounts r s (sendRecord c k r s) where
  failed q hq := by rw [sendRecord_rcd, if_neg hq]
  rule j := .refl _
  portRule d := by
    rw [sendRecord_port]
    split <;> exact ⟨rfl, rfl, rfl⟩
  device := ⟨rfl, rfl, rfl⟩
  pendingCount j := by
    rw [sendRecord_place, h]
    simp [sendRecord]
  dispatchedCount j := by
    rw [sendRecord_place, h]
    simp [sendRecord, Place.dispatchedIn]
  dispatched d := by
    rw [sendRecord_place, h, sendRecord_port]
    split <;> simp [Place.cur]

theorem sendRecord_permitted {y : Option RecIdx} {x : Option ConsumerIdx} (hl : Laws x y s)
    (hy : y ≠ some r) (h : (s.rcd r).place = .queued k c) : Permitted r s (sendRecord c k r s) where
  room j hj := by
    simp only [sendRecord_place, Place.cls] at hj
    exact Or.inl (by rw [h]; exact hj)
  serial j hj := by
    simp only [sendRecord_place, Place.dispatchedIn] at hj
    exact Or.inl (by rw [h]; exact hj)
  window d hd := by
    simp only [sendRecord_place, Place.cur] at hd
    exact Or.inl (by rw [h]; exact hd)
  attempts j hj := by
    obtain rfl : k = j := by simpa [sendRecord_place, Place.cls] using hj
    have := hl.attempts r k hy (by simp [h, Place.cls])
    simpa [sendRecord_rcd] using this

end

/-! ## What an admission leaves -/

/-- The record at the head of the free list is filled and queued, before the hold rule and the pointer. -/
def storeHead (k : ClassIdx) (x : Arrival) (r : RecIdx) (rest : List RecIdx) (s : State) : State :=
  ((({ s with freeList := rest }).modRec r fun e => fillRecord e.generation k x).modQueue k (· ++ [r])).modClass k fun c =>
    { c with pendingCount := c.pendingCount + 1, accepted := satUp c.accepted }

/-- The record at the head of a class queue, already logged, is filled anew and queued at the tail, before the pointer. -/
def refillHead (k : ClassIdx) (x : Arrival) (r : RecIdx) (rest : List RecIdx) (s : State) : State :=
  ((s.modRec r fun e => fillRecord (e.generation + 1) k x).modQueue k fun _ => rest ++ [r]).modClass k fun c =>
    { c with accepted := satUp c.accepted }

theorem allocate_eq (k : ClassIdx) (x : Arrival) (r : RecIdx) (rest : List RecIdx) (s : State) :
    allocate k x r rest s = setPointer k x r (applyHold (storeHead k x r rest s)) := rfl

theorem displace_eq (k : ClassIdx) (x : Arrival) (r : RecIdx) (rest : List RecIdx) (s : State) :
    displace k x r rest s = setPointer k x r (refillHead k x r rest (recordAbandon r k .displaced s)) := rfl

section

variable {s : State} {r : RecIdx} {k : ClassIdx} {x : Arrival} {rest : List RecIdx}

theorem storeHead_rcd (q : RecIdx) : (storeHead k x r rest s).rcd q =
    if q = r then fillRecord (s.rcd q).generation k x else s.rcd q :=
  State.modRec_rcd { s with freeList := rest } r _ q

theorem storeHead_queue (j : ClassIdx) :
    (storeHead k x r rest s).queue j = if j = k then s.queue j ++ [r] else s.queue j :=
  State.modQueue_queue _ k _ j

theorem storeHead_cls (j : ClassIdx) : (storeHead k x r rest s).cls j =
    if j = k then
      { s.cls j with pendingCount := (s.cls j).pendingCount + 1, accepted := satUp (s.cls j).accepted }
    else s.cls j :=
  State.modClass_cls _ k _ j

theorem storeHead_place : ((storeHead k x r rest s).rcd r).place = .pending k := by
  simp [storeHead_rcd, fillRecord]

theorem Placed.head_free (hp : Placed s) (hf : s.freeList = r :: rest) : (s.rcd r).place = .free :=
  (hp.free r).mpr (by simp [hf])

theorem storeHead_relocates (hp : Placed s) (hf : s.freeList = r :: rest) :
    Relocates r s (storeHead k x r rest s) where
  others q h := by rw [storeHead_rcd, if_neg h]
  free := by
    have e : without r s.freeList = rest := by
      have := hp.freeOnce
      rw [hf] at this ⊢
      exact without_head this
    have : (storeHead k x r rest s).freeList = without r s.freeList := e.symm
    rw [this]
    exact .removed (by simp [storeHead_place])
  queue j := by
    have hm : r ∉ s.queue j := hp.notMem_queue (by simp [hp.head_free hf])
    rw [storeHead_place, storeHead_queue]
    by_cases hj : j = k
    · rw [if_pos hj]
      exact .toTail hm (by rw [hj])
    · rw [if_neg hj]
      exact .unchanged hm (by simp [Ne.symm hj])
  tx d := .unchanged (hp.notMem_tx (by simp [hp.head_free hf, Place.cur])) (by simp [storeHead_place])
  awaiting d := .unchanged (hp.notMem_waitingAck (by simp [hp.head_free hf, Place.cur])) (by simp [storeHead_place])

theorem storeHead_recounts (hp : Placed s) (hf : s.freeList = r :: rest) :
    Recounts r s (storeHead k x r rest s) where
  failed q h := by rw [storeHead_rcd, if_neg h]
  rule j := by
    rw [storeHead_cls]
    split <;> exact ⟨rfl, rfl, rfl⟩
  portRule d := .refl _
  device := ⟨rfl, rfl, rfl⟩
  pendingCount j := by
    rw [storeHead_cls, storeHead_place, hp.head_free hf]
    by_cases hj : j = k
    · simp [hj]
    · simp [hj, Ne.symm hj]
  dispatchedCount j := by
    rw [storeHead_cls, storeHead_place, hp.head_free hf]
    split <;> simp [Place.dispatchedIn]
  dispatched d := by
    rw [storeHead_place, hp.head_free hf]
    simp [Place.cur, storeHead]

/-- An ENABLED class with room takes one more record, which has no failed attempt (R43). -/
theorem storeHead_permitted (hc : Configured s) (he : (s.cls k).state = .enabled)
    (hr : s.holding k < (s.cls k).config.pendingLimit.val) : Permitted r s (storeHead k x r rest s) where
  room j hj := by
    obtain rfl : k = j := by simpa [storeHead_place, Place.cls] using hj
    exact Or.inr ⟨by simp [he], hr⟩
  serial j hj := by simp [storeHead_place, Place.dispatchedIn] at hj
  window d hd := by simp [storeHead_place, Place.cur] at hd
  attempts j hj := by
    obtain rfl : k = j := by simpa [storeHead_place, Place.cls] using hj
    have := (hc.classes k).2.1
    simp [storeHead_rcd, fillRecord]
    omega

theorem refillHead_rcd (q : RecIdx) : (refillHead k x r rest s).rcd q =
    if q = r then fillRecord ((s.rcd q).generation + 1) k x else s.rcd q :=
  State.modRec_rcd s r _ q

theorem refillHead_queue (j : ClassIdx) :
    (refillHead k x r rest s).queue j = if j = k then rest ++ [r] else s.queue j :=
  State.modQueue_queue _ k _ j

theorem refillHead_cls (j : ClassIdx) : (refillHead k x r rest s).cls j =
    if j = k then { s.cls j with accepted := satUp (s.cls j).accepted } else s.cls j :=
  State.modClass_cls _ k _ j

theorem refillHead_place : ((refillHead k x r rest s).rcd r).place = .pending k := by
  simp [refillHead_rcd, fillRecord]

theorem refillHead_relocates (hp : Placed s) (hq : s.queue k = r :: rest) :
    Relocates r s (refillHead k x r rest s) where
  others q h := by rw [refillHead_rcd, if_neg h]
  free := .unchanged (hp.notMem_freeList (k := k) (by simp [hp.head_pending hq, Place.cls]))
    (by simp [refillHead_place])
  queue j := by
    rw [refillHead_queue]
    by_cases hj : j = k
    · subst hj
      rw [if_pos rfl, ← hp.head_without hq]
      exact Or.inl ⟨refillHead_place, Or.inr rfl⟩
    · rw [if_neg hj]
      exact .unchanged (hp.notMem_queue (by simp [hp.head_pending hq, Ne.symm hj]))
        (by simp [refillHead_place, Ne.symm hj])
  tx d := .unchanged (hp.notMem_tx (by simp [hp.head_pending hq, Place.cur])) (by simp [refillHead_place])
  awaiting d :=
    .unchanged (hp.notMem_waitingAck (by simp [hp.head_pending hq, Place.cur])) (by simp [refillHead_place])

theorem refillHead_recounts (hp : Placed s) (hq : s.queue k = r :: rest) :
    Recounts r s (refillHead k x r rest s) where
  failed q h := by rw [refillHead_rcd, if_neg h]
  rule j := by
    rw [refillHead_cls]
    split <;> exact ⟨rfl, rfl, rfl⟩
  portRule d := .refl _
  device := ⟨rfl, rfl, rfl⟩
  pendingCount j := by
    rw [refillHead_cls, refillHead_place, hp.head_pending hq]
    split <;> rfl
  dispatchedCount j := by
    rw [refillHead_cls, refillHead_place, hp.head_pending hq]
    split <;> rfl
  dispatched d := by
    rw [refillHead_place, hp.head_pending hq]
    rfl

theorem refillHead_permitted (hp : Placed s) (hc : Configured s) (hq : s.queue k = r :: rest) :
    Permitted r s (refillHead k x r rest s) where
  room j hj := Or.inl (by rw [hp.head_pending hq]; simpa [refillHead_place] using hj)
  serial j hj := by simp [refillHead_place, Place.dispatchedIn] at hj
  window d hd := by simp [refillHead_place, Place.cur] at hd
  attempts j hj := by
    obtain rfl : k = j := by simpa [refillHead_place, Place.cls] using hj
    have := (hc.classes k).2.1
    simp [refillHead_rcd, fillRecord]
    omega

end

end Sys2Proof.Machine
end

section
/-! # What else changes: nothing of the store, a class, a consumer, or everything at once -/

namespace Sys2Proof.Machine

/-! ## Operations that leave the store as it is -/

namespace SameStore

theorem refl (y : Option RecIdx) (s : State) : SameStore y s s :=
  ⟨fun _ => rfl, fun _ _ => rfl, rfl, fun _ => rfl, fun _ => .refl _, fun _ => rfl, fun _ => rfl, fun _ => .refl _,
    fun _ => rfl, fun _ => rfl, fun _ => rfl, ⟨rfl, rfl, rfl⟩⟩

theorem trans {y : Option RecIdx} {s u t : State} (h : SameStore y s u) (g : SameStore y u t) : SameStore y s t where
  spot r := (g.spot r).trans (h.spot r)
  failed r hr := (g.failed r hr).trans (h.failed r hr)
  freeList := g.freeList.trans h.freeList
  queue k := (g.queue k).trans (h.queue k)
  rule k :=
    ⟨(g.rule k).config.trans (h.rule k).config, (g.rule k).state.trans (h.rule k).state,
      (g.rule k).purge.trans (h.rule k).purge⟩
  pendingCount k := (g.pendingCount k).trans (h.pendingCount k)
  dispatchedCount k := (g.dispatchedCount k).trans (h.dispatchedCount k)
  portRule c :=
    ⟨(g.portRule c).window.trans (h.portRule c).window, (g.portRule c).threshold.trans (h.portRule c).threshold,
      (g.portRule c).state.trans (h.portRule c).state⟩
  tx c := (g.tx c).trans (h.tx c)
  waitingAck c := (g.waitingAck c).trans (h.waitingAck c)
  dispatched c := (g.dispatched c).trans (h.dispatched c)
  device := ⟨g.device.device.trans h.device.device, g.device.bankA.trans h.device.bankA, g.device.bankB.trans h.device.bankB⟩

theorem aside {s t : State} (h : SameStore none s t) (y : Option RecIdx) : SameStore y s t :=
  { h with failed := fun r _ => h.failed r (by simp) }

/-- The fields that the laws read are the same. -/
theorem ofFields {y : Option RecIdx} {s t : State} (hr : t.records = s.records) (hf : t.freeList = s.freeList)
    (hq : t.queues = s.queues) (hc : t.classes = s.classes) (hp : t.ports = s.ports) (hd : SameDevice s t) :
    SameStore y s t := by
  have er : ∀ r, t.rcd r = s.rcd r := fun r => congrArg (Tab.nth · r) hr
  have eq : ∀ k, t.queue k = s.queue k := fun k => congrArg (Tab.nth · k) hq
  have ec : ∀ k, t.cls k = s.cls k := fun k => congrArg (Tab.nth · k) hc
  have ep : ∀ c, t.port c = s.port c := fun c => congrArg (Tab.nth · c) hp
  exact
    { spot := fun r => by rw [er], failed := fun r _ => by rw [er], freeList := hf, queue := eq
      rule := fun k => ec k ▸ .refl _, pendingCount := fun k => by rw [ec], dispatchedCount := fun k => by rw [ec]
      portRule := fun c => ep c ▸ .refl _, tx := fun c => by rw [ep], waitingAck := fun c => by rw [ep]
      dispatched := fun c => by rw [ep], device := hd }

/-- A record changes in what the laws do not read. -/
theorem modRec {y : Option RecIdx} (s : State) (r : RecIdx) {f : EventRecord → EventRecord}
    (hp : ∀ e, (f e).place.spot = e.place.spot) (hf : y ≠ some r → ∀ e, (f e).failed = e.failed) :
    SameStore y s (s.modRec r f) :=
  { refl y s with
    device := ⟨rfl, rfl, rfl⟩
    spot := fun q => by
      rw [State.modRec_rcd]
      split
      · exact hp _
      · rfl
    failed := fun q hq => by
      rw [State.modRec_rcd]
      split
      · rename_i e
        exact hf (e ▸ hq) _
      · rfl }

/-- A class changes in its counters alone. -/
theorem modClass {y : Option RecIdx} (s : State) (k : ClassIdx) {f : ClassRecord → ClassRecord}
    (hr : ∀ x, SameRule x (f x)) (hp : ∀ x, (f x).pendingCount = x.pendingCount)
    (hd : ∀ x, (f x).dispatchedCount = x.dispatchedCount) : SameStore y s (s.modClass k f) :=
  { refl y s with
    device := ⟨rfl, rfl, rfl⟩
    rule := fun j => by
      rw [State.modClass_cls]
      split
      · exact hr _
      · exact .refl _
    pendingCount := fun j => by
      rw [State.modClass_cls]
      split
      · exact hp _
      · rfl
    dispatchedCount := fun j => by
      rw [State.modClass_cls]
      split
      · exact hd _
      · rfl }

/-- A port changes in its counters, its run, its load and its slots alone. -/
theorem modPort {y : Option RecIdx} (s : State) (c : ConsumerIdx) {f : Port → Port}
    (hr : ∀ p, SamePortRule p (f p)) (ht : ∀ p, (f p).tx = p.tx) (hw : ∀ p, (f p).waitingAck = p.waitingAck)
    (hd : ∀ p, (f p).dispatched = p.dispatched) : SameStore y s (s.modPort c f) :=
  { refl y s with
    device := ⟨rfl, rfl, rfl⟩
    portRule := fun d => by
      rw [State.modPort_port]
      split
      · exact hr _
      · exact .refl _
    tx := fun d => by
      rw [State.modPort_port]
      split
      · exact ht _
      · rfl
    waitingAck := fun d => by
      rw [State.modPort_port]
      split
      · exact hw _
      · rfl
    dispatched := fun d => by
      rw [State.modPort_port]
      split
      · exact hd _
      · rfl }

variable {y : Option RecIdx} (s : State)

theorem modLink (l : LinkId) (f : Link → Link) : SameStore y s (s.modLink l f) :=
  ofFields rfl rfl rfl rfl rfl ⟨rfl, rfl, rfl⟩

theorem modLevel (a : Addr) (f : LevelEntry → LevelEntry) : SameStore y s (s.modLevel a f) :=
  ofFields rfl rfl rfl rfl rfl ⟨rfl, rfl, rfl⟩

theorem applyHold : SameStore y s (applyHold s) := by
  rw [applyHold_frame]
  exact ofFields rfl rfl rfl rfl rfl ⟨rfl, rfl, rfl⟩

theorem placeNotice : SameStore y s (placeNotice s) := by
  have hs : ∀ c, SamePortRule (s.port c) ((Machine.placeNotice s).port c) := fun c => by
    rw [placeNotice_port]
    exact ⟨rfl, rfl, rfl⟩
  have ht : ∀ c, ((Machine.placeNotice s).port c).tx = (s.port c).tx := fun c => by rw [placeNotice_port]
  have hw : ∀ c, ((Machine.placeNotice s).port c).waitingAck = (s.port c).waitingAck := fun c => by
    rw [placeNotice_port]
  have hd : ∀ c, ((Machine.placeNotice s).port c).dispatched = (s.port c).dispatched := fun c => by
    rw [placeNotice_port]
  have hf : SameStore y s { Machine.placeNotice s with ports := s.ports } := by
    rw [placeNotice_frame]
    exact ofFields rfl rfl rfl rfl rfl ⟨rfl, rfl, rfl⟩
  exact { hf with
    portRule := hs, tx := ht, waitingAck := hw, dispatched := hd
    device := ⟨hf.device.device, hf.device.bankA, hf.device.bankB⟩ }

theorem recordAbandon (r : RecIdx) (k : ClassIdx) (why : Reason) : SameStore y s (recordAbandon r k why s) := by
  rw [recordAbandon_eq]
  exact trans (modClass s k (f := fun c => { c with abandoned := satUp c.abandoned })
    (fun _ => ⟨rfl, rfl, rfl⟩) (fun _ => rfl) (fun _ => rfl)) (ofFields rfl rfl rfl rfl rfl ⟨rfl, rfl, rfl⟩)

theorem setPointer (k : ClassIdx) (x : Arrival) (r : RecIdx) : SameStore y s (setPointer k x r s) := by
  unfold Machine.setPointer
  split
  · exact modLevel s _ _
  · exact refl y s

theorem coalesce (r : RecIdx) (datum : Half) (stamp : Stamp) : SameStore y s (coalesce r datum stamp s) := by
  unfold Machine.coalesce
  split
  · split
    · exact modRec s r (fun _ => rfl) fun _ _ => rfl
    · exact refl y s
  all_goals exact refl y s

theorem renewLease (c : ConsumerIdx) : SameStore y s (renewLease c s) := by
  rw [renewLease_frame]
  exact ofFields rfl rfl rfl rfl rfl ⟨rfl, rfl, rfl⟩

theorem markTried (c : ConsumerIdx) (r : RecIdx) : SameStore y s (markTried c r s) :=
  modRec s r (fun _ => rfl) fun _ _ => rfl

/-- A charged failure leaves all but the failed attempts of its record. -/
theorem chargeFailure (c : ConsumerIdx) (r : RecIdx) : SameStore (some r) s (chargeFailure c r s) :=
  modRec s r (fun _ => rfl) fun h => absurd rfl h

end SameStore

/-! ## A class changes its state or its configuration -/

section

variable {x : Option ConsumerIdx} {y : Option RecIdx} {s : State} {k : ClassIdx} {f : ClassRecord → ClassRecord}

theorem placed_modClass (h : Placed s) : Placed (s.modClass k f) :=
  placed_congr h (fun _ => rfl) rfl (fun _ => rfl) (fun _ => rfl) fun _ => rfl

theorem counted_modClass (hc : Counted s) (hp : ∀ x, (f x).pendingCount = x.pendingCount)
    (hd : ∀ x, (f x).dispatchedCount = x.dispatchedCount) : Counted (s.modClass k f) where
  pendingCount j := by
    have : ((s.modClass k f).cls j).pendingCount = (s.cls j).pendingCount := by
      rw [State.modClass_cls]
      split
      · exact hp _
      · rfl
    exact this.trans (hc.pendingCount j)
  dispatchedCount j := by
    have : ((s.modClass k f).cls j).dispatchedCount = (s.cls j).dispatchedCount := by
      rw [State.modClass_cls]
      split
      · exact hd _
      · rfl
    exact this.trans (hc.dispatchedCount j)
  dispatched := hc.dispatched

/-- A class that holds nothing has no record. -/
theorem Counted.no_record (hc : Counted s) (hp : Placed s) (h : s.holding k = 0) (r : RecIdx) :
    (s.rcd r).place.cls ≠ some k := fun e => by
  unfold State.holding at h
  rcases (Place.cls_eq_some_iff _ _).mp e with e | e
  · have := hc.pendingCount_pos hp e
    omega
  · have := hc.dispatchedCount_pos e
    omega

/-- What a change of the state or the configuration of a class must keep to. -/
structure ClassChange (s : State) (k : ClassIdx) (f : ClassRecord → ClassRecord) : Prop where
  pendingCount : ∀ x, (f x).pendingCount = x.pendingCount
  dispatchedCount : ∀ x, (f x).dispatchedCount = x.dispatchedCount
  state : (f (s.cls k)).state = .disabled → s.holding k = 0
  purge : (f (s.cls k)).purge = true → (f (s.cls k)).state = .draining
  config : (f (s.cls k)).config = (s.cls k).config ∨ (s.holding k = 0 ∧ ConfigLawful (f (s.cls k)).config)

theorem ClassChange.holding (h : ClassChange s k f) (j : ClassIdx) : (s.modClass k f).holding j = s.holding j := by
  unfold State.holding
  rw [State.modClass_cls]
  split
  · rw [h.pendingCount, h.dispatchedCount]
  · rfl

/-- A class may change its state as its holding count allows, and its configuration while it holds nothing (R69, R78). -/
theorem ClassChange.laws (h : ClassChange s k f) (hp : Placed s) (hl : Laws x y s) : Laws x y (s.modClass k f) where
  counted := counted_modClass hl.counted h.pendingCount h.dispatchedCount
  classes j := by
    rw [h.holding, State.modClass_cls]
    split
    · rename_i e
      subst e
      exact ⟨h.state, h.purge⟩
    · exact hl.classes j
  ports := hl.ports
  limits :=
    { pendingLimit := fun j => by
        have hj := hl.limits.pendingLimit j
        rw [h.holding, State.modClass_cls]
        split
        · rename_i e
          subst e
          rcases h.config with e | ⟨e, _⟩
          · rw [e]; exact hj
          · rw [e]; exact Nat.zero_le _
        · exact hj
      window := hl.limits.window
      serial := fun j => by
        have hj := hl.limits.serial j
        rw [State.modClass_cls]
        split
        · rename_i e
          subst e
          rw [h.dispatchedCount]
          rcases h.config with e | ⟨e, _⟩
          · rw [e]; exact hj
          · unfold State.holding at e
            intro _
            omega
        · exact hj }
  attempts r j hy hj := by
    have hr := hl.attempts r j hy hj
    rw [State.modClass_cls]
    split
    · rename_i e
      subst e
      rcases h.config with e | ⟨e, _⟩
      · rw [e]; exact hr
      · exact absurd hj (hl.counted.no_record hp e r)
    · exact hr
  configured :=
    { device := hl.configured.device
      classes := fun j => by
        have hj := hl.configured.classes j
        rw [State.modClass_cls]
        split
        · rename_i e
          subst e
          rcases h.config with e | ⟨_, e⟩
          · rw [e]; exact hj
          · exact e
        · exact hj
      ports := hl.configured.ports
      bankA := hl.configured.bankA
      bankB := hl.configured.bankB }

/-- Ending a drain of a class that holds nothing is such a change (R76). -/
theorem drainCheck_placed (h : Placed s) : Placed (drainCheck k s) := by
  rw [drainCheck_frame]
  exact placed_congr h (fun _ => rfl) rfl (fun _ => rfl) (fun _ => rfl) fun _ => rfl

theorem drainCheck_laws (hp : Placed s) (hl : Laws x y s) : Laws x y (drainCheck k s) := by
  unfold drainCheck
  split
  · rename_i h
    have hc : ClassChange s k fun c => { c with state := .disabled, purge := false } :=
      ⟨fun _ => rfl, fun _ => rfl, fun _ => h.2, nofun, Or.inl rfl⟩
    have hs : SameStore y (s.modClass k fun c => { c with state := .disabled, purge := false })
        (raiseIdle k (s.modClass k fun c => { c with state := .disabled, purge := false })) :=
      .ofFields rfl rfl rfl rfl rfl ⟨rfl, rfl, rfl⟩
    exact hs.laws (hc.laws hp hl)
  · exact hl

end

/-! ## A consumer changes its state or its configuration -/

section

variable {x : Option ConsumerIdx} {y : Option RecIdx} {s : State} {c : ConsumerIdx} {f : Port → Port}

/-- The lists and the count of a port are kept. -/
structure KeepsLists (f : Port → Port) : Prop where
  tx : ∀ p, (f p).tx = p.tx
  waitingAck : ∀ p, (f p).waitingAck = p.waitingAck
  dispatched : ∀ p, (f p).dispatched = p.dispatched

theorem KeepsLists.read (h : KeepsLists f) (s : State) (c d : ConsumerIdx) :
    ((s.modPort c f).port d).tx = (s.port d).tx ∧ ((s.modPort c f).port d).waitingAck = (s.port d).waitingAck ∧
      ((s.modPort c f).port d).dispatched = (s.port d).dispatched := by
  rw [State.modPort_port]
  split
  · exact ⟨h.tx _, h.waitingAck _, h.dispatched _⟩
  · exact ⟨rfl, rfl, rfl⟩

theorem KeepsLists.placed (h : KeepsLists f) (hp : Placed s) : Placed (s.modPort c f) :=
  placed_congr hp (fun _ => rfl) rfl (fun _ => rfl) (fun d => (h.read s c d).1) fun d => (h.read s c d).2.1

/-- The laws with the state of consumer `c` set aside, after a change of its port that keeps its lists and lets its window
hold what is dispatched to it. -/
theorem KeepsLists.laws (h : KeepsLists f) (hl : Laws x y s) (hx : x = none ∨ x = some c)
    (hw : (s.port c).dispatched ≤ (f (s.port c)).window.val)
    (hv : 1 ≤ (f (s.port c)).window.val ∧ 1 ≤ (f (s.port c)).threshold.val) :
    Laws (some c) y (s.modPort c f) where
  counted :=
    { pendingCount := hl.counted.pendingCount
      dispatchedCount := hl.counted.dispatchedCount
      dispatched := fun d => by
        obtain ⟨e1, e2, e3⟩ := h.read s c d
        rw [e1, e2, e3]
        exact hl.counted.dispatched d }
  classes := hl.classes
  ports d hd := by
    have hne : d ≠ c := fun e => hd (by rw [e])
    rw [State.modPort_port_ne _ _ _ hne]
    refine hl.ports d ?_
    rcases hx with rfl | rfl
    · simp
    · exact hd
  limits :=
    { pendingLimit := hl.limits.pendingLimit
      window := fun d => by
        rw [(h.read s c d).2.2, State.modPort_port]
        split
        · rename_i e
          subst e
          exact hw
        · exact hl.limits.window d
      serial := hl.limits.serial }
  attempts := hl.attempts
  configured :=
    { device := hl.configured.device
      classes := hl.configured.classes
      ports := fun d => by
        rw [State.modPort_port]
        split
        · rename_i e
          subst e
          exact hv
        · exact hl.configured.ports d
      bankA := hl.configured.bankA
      bankB := hl.configured.bankB }

/-- The consumer set aside keeps to the law again. -/
theorem Laws.resume (hl : Laws (some c) y s)
    (h : (s.port c).state = .active ∨ (s.port c).state = .suspect ∨ (s.port c).dispatched = 0) : Laws none y s :=
  { hl with
    ports := fun d _ => by
      by_cases hd : d = c
      · exact hd ▸ h
      · exact hl.ports d fun e => hd (Option.some.inj e).symm }

end

/-! ## Every record FREE -/

/-- The store is empty: every record is FREE, every list but the free list is empty, every count is 0. -/
structure Emptied (t : State) : Prop where
  place : ∀ r, (t.rcd r).place = .free
  freeList : t.freeList = allRecords
  queue : ∀ k, t.queue k = []
  tx : ∀ c, (t.port c).tx = []
  waitingAck : ∀ c, (t.port c).waitingAck = []
  dispatched : ∀ c, (t.port c).dispatched = 0
  holding : ∀ k, (t.cls k).pendingCount = 0 ∧ (t.cls k).dispatchedCount = 0
  purge : ∀ k, (t.cls k).purge = false

theorem Emptied.placed {t : State} (h : Emptied t) : Placed t where
  free r := by simp [h.place, h.freeList, allRecords]
  pending r k := by simp [h.place, h.queue]
  queued r c := by simp [h.place, h.tx]
  awaiting r c := by simp [h.place, h.waitingAck]
  freeOnce := h.freeList ▸ List.nodup_finRange 512
  queueOnce k := by simp [h.queue]
  txOnce c := by simp [h.tx]
  awaitingOnce c := by simp [h.waitingAck]

theorem Emptied.laws {t : State} (h : Emptied t) (hc : Configured t) : Laws none none t where
  counted :=
    { pendingCount := fun k => by rw [(h.holding k).1, h.queue]; rfl
      dispatchedCount := fun k => by
        rw [(h.holding k).2, dispatchedOf_eq, eq_comm, List.countP_eq_zero]
        intro r _
        simp [h.place, Place.dispatchedIn]
      dispatched := fun c => by rw [h.dispatched, h.tx, h.waitingAck]; rfl }
  classes k := by
    refine ⟨fun _ => ?_, fun e => by rw [h.purge] at e; cases e⟩
    unfold State.holding
    rw [(h.holding k).1, (h.holding k).2]
  ports c _ := Or.inr (Or.inr (h.dispatched c))
  limits :=
    { pendingLimit := fun k => by
        unfold State.holding
        rw [(h.holding k).1, (h.holding k).2]
        exact Nat.zero_le _
      window := fun c => by rw [h.dispatched]; exact Nat.zero_le _
      serial := fun k _ => by rw [(h.holding k).2]; exact Nat.zero_le _ }
  attempts r k _ hk := by
    rw [h.place] at hk
    cases hk
  configured := hc

end Sys2Proof.Machine
end

section
/-! # What a claim keeps, and the moves that a step is made of -/

namespace Sys2Proof.Machine

/-! ## Freeing, abandoning, returning -/

section

variable {x : Option ConsumerIdx} {s : State} {r : RecIdx} {k : ClassIdx} {c : ConsumerIdx}

/-- A record is FREE, PENDING, or dispatched to a consumer. -/
theorem place_cases (s : State) (r : RecIdx) :
    (s.rcd r).place = .free ∨ (∃ k, (s.rcd r).place = .pending k) ∨ ∃ k c, DispatchedTo s r k c := by
  unfold DispatchedTo
  cases (s.rcd r).place <;> simp

theorem freeRecord_placed (hp : Placed s) (r : RecIdx) : Placed (freeRecord r s) := by
  rcases place_cases s r with h | ⟨k, h⟩ | ⟨k, c, h⟩
  · rwa [freeRecord_eq_free h]
  · rw [freeRecord_eq_pending h]
    exact (SameStore.applyHold (y := none) _).placed (drainCheck_placed ((freePending_relocates hp h).placed hp))
  · rw [freeRecord_eq_dispatched h]
    exact (SameStore.applyHold (y := none) _).placed (drainCheck_placed ((freeDispatched_relocates hp h).placed hp))

/-- Freeing keeps the laws, and a record that was set aside has no failed attempts then. -/
theorem freeRecord_laws (hp : Placed s) (hl : Laws x (some r) s) : Laws x none (freeRecord r s) := by
  rcases place_cases s r with h | ⟨k, h⟩ | ⟨k, c, h⟩
  · rw [freeRecord_eq_free h]
    refine { hl with attempts := fun q k _ hq => ?_ }
    have hne : q ≠ r := fun e => by
      rw [e, h] at hq
      cases hq
    exact hl.attempts q k (fun e => hne (Option.some.inj e).symm) hq
  · have hm := freePending_relocates hp h
    have hj := hm.laws (freePending_recounts hp hl.counted h) (.ofFree freePending_place) hp hl
    rw [freeRecord_eq_pending h]
    exact (SameStore.applyHold _).laws (drainCheck_laws (hm.placed hp) hj)
  · have hm := freeDispatched_relocates hp h
    have hj := hm.laws (freeDispatched_recounts hp hl.counted h) (.ofFree freeDispatched_place) hp hl
    rw [freeRecord_eq_dispatched h]
    exact (SameStore.applyHold _).laws (drainCheck_laws (hm.placed hp) hj)

theorem abandon_placed (hp : Placed s) (r : RecIdx) (why : Reason) : Placed (abandon r why s) := by
  unfold abandon
  split
  · exact hp
  · exact freeRecord_placed ((SameStore.recordAbandon (y := none) s r _ why).placed hp) r

/-- Abandoning a record that is not FREE keeps the laws. -/
theorem abandon_laws (hp : Placed s) (hr : (s.rcd r).place.cls ≠ none) (hl : Laws x (some r) s) (why : Reason) :
    Laws x none (abandon r why s) := by
  unfold abandon
  split
  · rename_i h
    exact absurd h hr
  · rename_i k _
    have hs := SameStore.recordAbandon (y := some r) s r k why
    exact freeRecord_laws (hs.placed hp) (hs.laws hl)

theorem returnRecord_placed (hp : Placed s) (r : RecIdx) : Placed (returnRecord r s) := by
  rcases place_cases s r with h | ⟨k, h⟩ | ⟨k, c, h⟩
  · unfold returnRecord
    rwa [h]
  · unfold returnRecord
    rwa [h]
  · exact (returnRecord_relocates hp h).placed hp

theorem returnRecord_laws (hp : Placed s) (h : DispatchedTo s r k c) (hl : Laws x (some r) s)
    (hf : (s.rcd r).failed.toNat < (s.cls k).config.attemptLimit.val) : Laws x none (returnRecord r s) :=
  (returnRecord_relocates hp h).laws (returnRecord_recounts hp hl.counted h) (returnRecord_permitted h hf) hp hl

/-- Charging leaves the record where it is. -/
theorem chargeFailure_dispatched (h : DispatchedTo s r k c) (d : ConsumerIdx) :
    DispatchedTo (chargeFailure d r s) r k c := by
  simpa [DispatchedTo, chargeFailure] using h

theorem failure_placed (hp : Placed s) (k : ClassIdx) (c : ConsumerIdx) (r : RecIdx) :
    Placed (failureDecision k r (chargeFailure c r s)) := by
  have hq := (SameStore.chargeFailure s c r).placed hp
  rcases failureDecision_cases k r (chargeFailure c r s) with ⟨_, e⟩ | ⟨_, _, e⟩ | ⟨_, _, e⟩ <;> rw [e]
  · exact abandon_placed hq r _
  · exact abandon_placed hq r _
  · exact returnRecord_placed hq r

/-- A charged failure that is decided keeps the laws: the record is abandoned or its attempts stay below the limit (R125). -/
theorem failure_laws (hp : Placed s) (h : DispatchedTo s r k c) (hl : Laws x none s) :
    Laws x none (failureDecision k r (chargeFailure c r s)) := by
  have hs := SameStore.chargeFailure s c r
  have hq := hs.placed hp
  have hm := hs.laws (hl.aside (some r))
  have hd := chargeFailure_dispatched h c
  rcases failureDecision_cases k r (chargeFailure c r s) with ⟨_, e⟩ | ⟨_, _, e⟩ | ⟨_, hf, e⟩ <;> rw [e]
  · exact abandon_laws hq (by simp [hd.cls]) hm _
  · exact abandon_laws hq (by simp [hd.cls]) hm _
  · exact returnRecord_laws hq hd hm hf

end

/-! ## A claim on every record of a consumer -/

section

variable {s : State} {c : ConsumerIdx}

/-- The current consumer of each record after one has left its consumer. -/
theorem freeRecord_place (r q : RecIdx) (s : State) :
    ((freeRecord r s).rcd q).place = if q = r then .free else (s.rcd q).place := by
  have hd : ∀ k u, (applyHold (drainCheck k u)).rcd q = u.rcd q := fun k u => by
    rw [applyHold_frame, drainCheck_frame]
    rfl
  rcases place_cases s r with h | ⟨k, h⟩ | ⟨k, c, h⟩
  · rw [freeRecord_eq_free h]
    split
    · rename_i e
      rw [e, h]
    · rfl
  · rw [freeRecord_eq_pending h, hd, freePending_rcd]
    split <;> rfl
  · rw [freeRecord_eq_dispatched h, hd, freeDispatched_rcd]
    split <;> rfl

theorem abandon_place (r q : RecIdx) (why : Reason) (s : State) :
    ((abandon r why s).rcd q).place = if q = r then .free else (s.rcd q).place := by
  unfold abandon
  split
  · rename_i h
    split
    · rename_i e
      rw [e]
      cases hr : (s.rcd r).place <;> simp [hr, Place.cls] at h ⊢
    · rfl
  · rw [freeRecord_place, recordAbandon_eq]
    rfl

theorem markTried_place (c : ConsumerIdx) (r q : RecIdx) (s : State) :
    ((markTried c r s).rcd q).place = (s.rcd q).place := by
  unfold markTried
  rw [State.modRec_rcd]
  split <;> rfl

theorem returnRecord_cur (r q : RecIdx) (s : State) :
    ((returnRecord r s).rcd q).place.cur = if q = r then none else (s.rcd q).place.cur := by
  rcases place_cases s r with h | ⟨k, h⟩ | ⟨k, c, h⟩
  · have e : returnRecord r s = s := by
      unfold returnRecord
      rw [h]
    rw [e]
    split
    · rename_i e
      rw [e, h]
      rfl
    · rfl
  · have e : returnRecord r s = s := by
      unfold returnRecord
      rw [h]
    rw [e]
    split
    · rename_i e
      rw [e, h]
      rfl
    · rfl
  · rw [returnRecord_rcd h]
    split <;> rfl

/-- The records of the list are FREE once they have been abandoned one after another, and no other has moved. -/
theorem abandons_place (c : ConsumerIdx) (rs : List RecIdx) (q : RecIdx) (s : State) :
    ((rs.foldl (fun t r => abandon r .purged (markTried c r t)) s).rcd q).place =
      if q ∈ rs then .free else (s.rcd q).place := by
  induction rs generalizing s with
  | nil => simp
  | cons r rs ih =>
    rw [List.foldl_cons, ih, abandon_place, markTried_place]
    by_cases h1 : q ∈ rs <;> by_cases h2 : q = r <;> simp [h1, h2]

theorem returns_cur (rs : List RecIdx) (q : RecIdx) (s : State) :
    ((rs.foldr (fun r t => returnRecord r t) s).rcd q).place.cur =
      if q ∈ rs then none else (s.rcd q).place.cur := by
  induction rs with
  | nil => simp
  | cons r rs ih =>
    rw [List.foldr_cons, returnRecord_cur, ih]
    by_cases h1 : q ∈ rs <;> by_cases h2 : q = r <;> simp [h1, h2]

/-- The state in which every record of consumer `c` has been abandoned or returned, before the port's lists are cleared. -/
def claimedBack (c : ConsumerIdx) (s : State) : State :=
  (returnedOf s c).foldr (fun r t => returnRecord r t)
    ((purgedOf s c).foldl (fun t r => abandon r .purged (markTried c r t)) s)

theorem returnAll_eq (c : ConsumerIdx) (s : State) :
    returnAll c s = (claimedBack c s).modPort c fun p => { p with tx := [], waitingAck := [], dispatched := 0 } := rfl

theorem mem_grantedTo_iff (hp : Placed s) (r : RecIdx) : r ∈ grantedTo s c ↔ (s.rcd r).place.cur = some c := by
  rw [grantedTo, List.mem_append, ← hp.awaiting, ← hp.queued, Place.cur_eq_some_iff, or_comm]

theorem mem_grantedTo_dispatched (hp : Placed s) {r : RecIdx} (h : r ∈ grantedTo s c) :
    ∃ k, DispatchedTo s r k c := by
  have hc := (mem_grantedTo_iff hp r).mp h
  rcases (Place.cur_eq_some_iff _ _).mp hc with ⟨k, e⟩ | ⟨k, d, e⟩
  · exact ⟨k, Or.inl e⟩
  · exact ⟨k, Or.inr ⟨d, e⟩⟩

/-- No record is dispatched to the consumer then. -/
theorem claimedBack_cur (hp : Placed s) (q : RecIdx) : ((claimedBack c s).rcd q).place.cur ≠ some c := by
  unfold claimedBack
  rw [returns_cur, abandons_place]
  by_cases hq : q ∈ grantedTo s c
  · by_cases hz : purgedHere s q = true
    · have h1 : q ∈ purgedOf s c := List.mem_filter.mpr ⟨hq, hz⟩
      rw [if_pos h1]
      split <;> simp [Place.cur]
    · have h1 : q ∈ returnedOf s c := List.mem_filter.mpr ⟨hq, by simpa using hz⟩
      simp [h1]
  · have h1 : q ∉ returnedOf s c := fun e => hq (List.mem_filter.mp e).1
    have h2 : q ∉ purgedOf s c := fun e => hq (List.mem_filter.mp e).1
    rw [if_neg h1, if_neg h2]
    exact fun e => hq ((mem_grantedTo_iff hp q).mpr e)

theorem abandons_placed (c : ConsumerIdx) (rs : List RecIdx) (hp : Placed s) :
    Placed (rs.foldl (fun t r => abandon r .purged (markTried c r t)) s) := by
  induction rs generalizing s with
  | nil => exact hp
  | cons r rs ih => exact ih (abandon_placed ((SameStore.markTried (y := none) s c r).placed hp) r _)

theorem returns_placed (rs : List RecIdx) (hp : Placed s) : Placed (rs.foldr (fun r t => returnRecord r t) s) := by
  induction rs with
  | nil => exact hp
  | cons r rs ih => exact returnRecord_placed ih r

theorem claimedBack_placed (hp : Placed s) : Placed (claimedBack c s) :=
  returns_placed _ (abandons_placed c _ hp)

/-- So its lists are empty. -/
theorem claimedBack_lists (hp : Placed s) :
    ((claimedBack c s).port c).tx = [] ∧ ((claimedBack c s).port c).waitingAck = [] := by
  have hq := claimedBack_placed (c := c) hp
  constructor
  · rw [← List.map_eq_nil_iff (f := fun d : Deliver => d.tag.index), List.eq_nil_iff_forall_not_mem]
    exact fun r => hq.notMem_tx (claimedBack_cur hp r)
  · rw [List.eq_nil_iff_forall_not_mem]
    exact fun r => hq.notMem_waitingAck (claimedBack_cur hp r)

theorem returnAll_placed (hp : Placed s) : Placed (returnAll c s) := by
  obtain ⟨ht, hw⟩ := claimedBack_lists (c := c) hp
  rw [returnAll_eq]
  refine placed_congr (claimedBack_placed hp) (fun _ => rfl) rfl (fun _ => rfl) (fun d => ?_) (fun d => ?_)
  all_goals
    rw [State.modPort_port]
    split
  · rename_i e
    rw [e, ht]
  · rfl
  · rename_i e
    rw [e, hw]
  · rfl

theorem abandons_laws {x : Option ConsumerIdx} (c : ConsumerIdx) (rs : List RecIdx) (hn : rs.Nodup) (hp : Placed s)
    (hr : ∀ r ∈ rs, (s.rcd r).place.cls ≠ none) (hl : Laws x none s) :
    Laws x none (rs.foldl (fun t r => abandon r .purged (markTried c r t)) s) := by
  induction rs generalizing s with
  | nil => exact hl
  | cons r rs ih =>
    obtain ⟨hrr, hnr⟩ := List.nodup_cons.mp hn
    have hm := SameStore.markTried (y := none) s c r
    have hq := hm.placed hp
    refine ih hnr (abandon_placed hq r _) (fun q hqr => ?_) ?_
    · rw [abandon_place, if_neg (fun e : q = r => hrr (e ▸ hqr)), markTried_place]
      exact hr q (List.mem_cons_of_mem _ hqr)
    · refine abandon_laws hq ?_ ((hm.laws hl).aside _) _
      rw [markTried_place]
      exact hr r List.mem_cons_self

theorem returns_laws {x : Option ConsumerIdx} (rs : List RecIdx) (hn : rs.Nodup) (hp : Placed s)
    (hr : ∀ r ∈ rs, (s.rcd r).place.cur = some c) (hl : Laws x none s) :
    Laws x none (rs.foldr (fun r t => returnRecord r t) s) := by
  induction rs with
  | nil => exact hl
  | cons r rs ih =>
    obtain ⟨hrr, hnr⟩ := List.nodup_cons.mp hn
    have hq := returns_placed rs hp
    have hi := ih hnr fun q hqr => hr q (List.mem_cons_of_mem _ hqr)
    have hc : ((rs.foldr (fun r t => returnRecord r t) s).rcd r).place.cur = some c := by
      rw [returns_cur, if_neg hrr]
      exact hr r List.mem_cons_self
    obtain ⟨k, h⟩ := mem_grantedTo_dispatched hq ((mem_grantedTo_iff hq r).mpr hc)
    exact returnRecord_laws hq h (hi.aside _) (hi.attempts r k (by simp) h.cls)

theorem grantedTo_nodup (hp : Placed s) (c : ConsumerIdx) : (grantedTo s c).Nodup := by
  refine List.nodup_append.mpr ⟨hp.awaitingOnce c, hp.txOnce c, fun a ha b hb => ?_⟩
  rintro rfl
  obtain ⟨k, d, h1⟩ := (hp.awaiting a c).mpr ha
  obtain ⟨j, h2⟩ := (hp.queued a c).mpr hb
  rw [h1] at h2
  cases h2

theorem claimedBack_laws {x : Option ConsumerIdx} (hp : Placed s) (hl : Laws x none s) :
    Laws x none (claimedBack c s) := by
  have hg := grantedTo_nodup hp c
  have hcur : ∀ r ∈ grantedTo s c, (s.rcd r).place.cur = some c := fun r hr => (mem_grantedTo_iff hp r).mp hr
  refine returns_laws (c := c) _ (hg.filter _) (abandons_placed c _ hp) (fun r hr => ?_)
    (abandons_laws c _ (hg.filter _) hp (fun r hr => ?_) hl)
  · have hr' := List.mem_filter.mp hr
    have hn : r ∉ purgedOf s c := fun e => by
      have := (List.mem_filter.mp e).2
      simp [this] at hr'
    rw [abandons_place, if_neg hn]
    exact hcur r hr'.1
  · obtain ⟨k, h⟩ := mem_grantedTo_dispatched hp (List.mem_filter.mp hr).1
    simp [h.cls]

/-- Clearing lists that are empty changes nothing. -/
theorem SameStore.clearLists {y : Option RecIdx} (ht : (s.port c).tx = []) (hw : (s.port c).waitingAck = [])
    (hd : (s.port c).dispatched = 0) :
    SameStore y s (s.modPort c fun p => { p with tx := [], waitingAck := [], dispatched := 0 }) :=
  { SameStore.refl y s with
    device := ⟨rfl, rfl, rfl⟩
    portRule := fun d => by
      rw [State.modPort_port]
      split
      · exact ⟨rfl, rfl, rfl⟩
      · exact .refl _
    tx := fun d => by
      rw [State.modPort_port]
      split
      · rename_i e
        rw [e, ht]
      · rfl
    waitingAck := fun d => by
      rw [State.modPort_port]
      split
      · rename_i e
        rw [e, hw]
      · rfl
    dispatched := fun d => by
      rw [State.modPort_port]
      split
      · rename_i e
        rw [e, hd]
      · rfl }

/-- The consumer whose records are claimed back holds none, so the law of R92 holds of it again. -/
theorem returnAll_laws (hp : Placed s) (hl : Laws (some c) none s) : Laws none none (returnAll c s) := by
  have hm := claimedBack_laws (c := c) hp hl
  obtain ⟨ht, hw⟩ := claimedBack_lists (c := c) hp
  have hd : ((claimedBack c s).port c).dispatched = 0 := by rw [hm.counted.dispatched, ht, hw]; rfl
  have hs : SameStore none (claimedBack c s) (returnAll c s) := by
    rw [returnAll_eq]
    exact SameStore.clearLists ht hw hd
  refine Laws.resume (hs.laws hm) (Or.inr (Or.inr ?_))
  simp [returnAll_eq]

end

end Sys2Proof.Machine
end

section
/-! # Every step is a chain of moves

`Move` lists, once, what the commands of the part can do to the store, the classes and the consumers, each with what holds
when it is done. A law that every move keeps is then a law that every step keeps. -/

namespace Sys2Proof.Machine

/-- One move of the part: a claim, a change of a class or a consumer, a configuration, or emptying the store. -/
inductive Move : State → State → Prop where
  | same {s t : State} (h : SameStore none s t) : Move s t
  | allocated {s : State} {k : ClassIdx} (x : Arrival) {r : RecIdx} {rest : List RecIdx} (hf : s.freeList = r :: rest)
      (he : (s.cls k).state = .enabled) (hr : s.holding k < (s.cls k).config.pendingLimit.val) :
      Move s (allocate k x r rest s)
  | displaced {s : State} {k : ClassIdx} (x : Arrival) {r : RecIdx} {rest : List RecIdx} (hq : s.queue k = r :: rest) :
      Move s (displace k x r rest s)
  | freed (s : State) (r : RecIdx) : Move s (freeRecord r s)
  | abandoned (s : State) (r : RecIdx) (why : Reason) : Move s (abandon r why s)
  | failed {s : State} {k : ClassIdx} {c : ConsumerIdx} {r : RecIdx} (h : DispatchedTo s r k c) :
      Move s (failureDecision k r (chargeFailure c r s))
  | granted {s : State} {k : ClassIdx} {c : ConsumerIdx} {r : RecIdx} {rest : List RecIdx}
      (hq : s.queue k = r :: rest) (hk : isContender s k = true) (hc : isCandidate s k c = true) :
      Move s (grantRecord k c r rest s)
  | sent {s : State} {k : ClassIdx} {c : ConsumerIdx} {r : RecIdx} (h : (s.rcd r).place = .queued k c) :
      Move s (sendRecord c k r s)
  | opened {s : State} {k : ClassIdx} (h : (s.cls k).state = .disabled) :
      Move s (s.modClass k fun x => { x with state := .enabled })
  | reopened (s : State) (k : ClassIdx) : Move s (s.modClass k fun x => { x with state := .enabled, purge := false })
  | closed (s : State) (k : ClassIdx) (p : Bool) :
      Move s (s.modClass k fun x => { x with state := .draining, purge := p })
  | drained (s : State) (k : ClassIdx) : Move s (drainCheck k s)
  | configured {s : State} {k : ClassIdx} {g : ClassConfig} (h : (s.cls k).state = .disabled) (hg : ConfigLawful g) :
      Move s (s.modClass k fun x => { x with config := g })
  | consumer {s : State} {c : ConsumerIdx} {f : Port → Port} (hk : KeepsLists f)
      (hw : ∀ p, (f p).window = p.window ∧ (f p).threshold = p.threshold)
      (hs : (f (s.port c)).state = (s.port c).state ∨ (f (s.port c)).state = .active ∨
        (f (s.port c)).state = .suspect ∨ ((s.port c).state ≠ .active ∧ (s.port c).state ≠ .suspect)) :
      Move s (s.modPort c f)
  | window {s : State} {c : ConsumerIdx} {w : Fin 9} {n : Fin 16} (h : (s.port c).state = .off) (hw : 1 ≤ w.val)
      (hn : 1 ≤ n.val) : Move s (s.modPort c fun p => { p with window := w, threshold := n })
  | lost (s : State) (c : ConsumerIdx) : Move s (portLoss c s)
  | disabled (s : State) (c : ConsumerIdx) : Move s (portDisable c s)
  | device {s : State} {d : Device} (h : DeviceLawful d) : Move s { s with device := d }
  | bank {s : State} (which : Bank) (i : Fin 64) {e : SteerEntry} (h : steerValid e = true) : Move s (writeEntryOf which i e s)
  | emptied {s t : State} (h : Emptied t) (hc : Configured s → Configured t) : Move s t

/-- The slots of a port that is out of service are emptied, which the laws do not read. -/
theorem SameStore.clearSlots {y : Option RecIdx} (s : State) (c : ConsumerIdx) :
    SameStore y s (s.modPort c fun p => { p with responseSlot := none, noticeSlot := none }) :=
  .modPort s c (fun _ => ⟨rfl, rfl, rfl⟩) (fun _ => rfl) (fun _ => rfl) fun _ => rfl

theorem KeepsLists.setState (f : ConsumerState → ConsumerState) :
    KeepsLists fun p => { p with state := f p.state } := ⟨fun _ => rfl, fun _ => rfl, fun _ => rfl⟩

/-! ## Every move keeps the placement of the records -/

theorem Move.placed {s t : State} (h : Move s t) (hp : Placed s) : Placed t := by
  cases h with
  | same h => exact h.placed hp
  | allocated x hf he hr =>
    rw [allocate_eq]
    exact ((SameStore.applyHold (y := none) _).trans (.setPointer _ _ _ _)).placed
      ((storeHead_relocates hp hf).placed hp)
  | @displaced k x r rest hq =>
    rw [displace_eq]
    have hs := SameStore.recordAbandon (y := none) s r k .displaced
    exact (SameStore.setPointer (y := none) _ _ _ _).placed
      ((refillHead_relocates (hs.placed hp) ((hs.queue _).trans hq)).placed (hs.placed hp))
  | freed r => exact freeRecord_placed hp r
  | abandoned r why => exact abandon_placed hp r why
  | failed h => exact failure_placed hp _ _ _
  | granted hq hk hc => exact (grantRecord_relocates hp hq).placed hp
  | sent h => exact (sendRecord_relocates hp h).placed hp
  | opened h => exact placed_modClass hp
  | reopened k => exact placed_modClass hp
  | closed k p => exact placed_modClass hp
  | drained k => exact drainCheck_placed hp
  | configured h hg => exact placed_modClass hp
  | consumer hk hw hs => exact hk.placed hp
  | window h hw hn => exact KeepsLists.placed ⟨fun _ => rfl, fun _ => rfl, fun _ => rfl⟩ hp
  | lost c =>
    exact (SameStore.clearSlots (y := none) _ c).placed
      (returnAll_placed ((KeepsLists.setState ConsumerState.detach).placed hp))
  | disabled c =>
    exact (SameStore.clearSlots (y := none) _ c).placed
      (returnAll_placed ((KeepsLists.setState fun _ => ConsumerState.off).placed hp))
  | device h => exact placed_congr hp (fun _ => rfl) rfl (fun _ => rfl) (fun _ => rfl) fun _ => rfl
  | bank which i h => cases which <;> exact placed_congr hp (fun _ => rfl) rfl (fun _ => rfl) (fun _ => rfl) fun _ => rfl
  | emptied h hc => exact h.placed

/-! ## Every move keeps the counts and limits -/

/-- A consumer may change its state alone while it has no dispatched record. -/
theorem Laws.setState {s : State} {c : ConsumerIdx} {f : Port → Port} (hl : Laws none none s) (hk : KeepsLists f)
    (hw : ∀ p, (f p).window = p.window ∧ (f p).threshold = p.threshold) : Laws (some c) none (s.modPort c f) := by
  refine hk.laws hl (Or.inl rfl) ?_ ?_
  · rw [(hw _).1]
    exact hl.limits.window c
  · rw [(hw _).1, (hw _).2]
    exact hl.configured.ports c

/-- A class that takes a new configuration or state holds nothing or stays in use. -/
theorem Laws.classChange {s : State} {k : ClassIdx} {f : ClassRecord → ClassRecord} (hl : Laws none none s)
    (hp : Placed s) (h : ClassChange s k f) : Laws none none (s.modClass k f) := h.laws hp hl

/-- A configuration changed outside the classes and the consumers. -/
theorem Laws.reconfigured {s t : State} (hl : Laws none none s) (hs : SameStore none s { t with
    device := s.device, bankA := s.bankA, bankB := s.bankB }) (hc : Configured t) : Laws none none t := by
  have h := hs.laws hl
  exact
    { counted := ⟨h.counted.pendingCount, h.counted.dispatchedCount, h.counted.dispatched⟩
      classes := h.classes
      ports := h.ports
      limits := ⟨h.limits.pendingLimit, h.limits.window, h.limits.serial⟩
      attempts := h.attempts
      configured := hc }

theorem writeEntryOf_configured {s : State} (which : Bank) (i : Fin 64) {e : SteerEntry} (h : steerValid e = true)
    (hc : Configured s) : Configured (writeEntryOf which i e s) := by
  have hput : ∀ t : Tab SteerEntry 64, (∀ j, steerValid (Tab.nth t j) = true) →
      ∀ j, steerValid (Tab.nth (Tab.put t i e) j) = true := fun t ht j => by
    rw [Tab.nth_put]
    split
    · exact h
    · exact ht j
  cases which with
  | a => exact ⟨hc.device, hc.classes, hc.ports, hput _ hc.bankA, hc.bankB⟩
  | b => exact ⟨hc.device, hc.classes, hc.ports, hc.bankA, hput _ hc.bankB⟩

theorem Move.laws {s t : State} (h : Move s t) (hp : Placed s) (hl : Laws none none s) : Laws none none t := by
  cases h with
  | same h => exact h.laws hl
  | allocated x hf he hr =>
    rw [allocate_eq]
    exact ((SameStore.applyHold (y := none) _).trans (.setPointer _ _ _ _)).laws
      ((storeHead_relocates hp hf).laws (storeHead_recounts hp hf) (storeHead_permitted hl.configured he hr) hp
        (hl.aside _))
  | @displaced k x r rest hq =>
    rw [displace_eq]
    have hs := SameStore.recordAbandon (y := none) s r k .displaced
    have hp' := hs.placed hp
    have hl' := hs.laws hl
    have hq' := (hs.queue _).trans hq
    exact (SameStore.setPointer (y := none) _ _ _ _).laws
      ((refillHead_relocates hp' hq').laws (refillHead_recounts hp' hq')
        (refillHead_permitted hp' hl'.configured hq') hp' (hl'.aside _))
  | freed r => exact freeRecord_laws hp (hl.aside _)
  | abandoned r why =>
    by_cases hr : (s.rcd r).place.cls = none
    · unfold abandon
      rw [hr]
      exact hl
    · exact abandon_laws hp hr (hl.aside _) why
  | failed h => exact failure_laws hp h hl
  | granted hq hk hc =>
    exact (grantRecord_relocates hp hq).laws (grantRecord_recounts hp hl.counted hq)
      (grantRecord_permitted hp hl (by simp) hq hk hc) hp (hl.aside _)
  | sent h =>
    exact (sendRecord_relocates hp h).laws (sendRecord_recounts h) (sendRecord_permitted hl (by simp) h) hp (hl.aside _)
  | @opened k h =>
    have hq : (s.cls k).purge ≠ true := fun e => by
      have := (hl.classes k).2 e
      rw [h] at this
      cases this
    exact hl.classChange hp ⟨fun _ => rfl, fun _ => rfl, nofun, fun e => absurd e hq, Or.inl rfl⟩
  | reopened k => exact hl.classChange hp ⟨fun _ => rfl, fun _ => rfl, nofun, nofun, Or.inl rfl⟩
  | closed k p => exact hl.classChange hp ⟨fun _ => rfl, fun _ => rfl, nofun, fun _ => rfl, Or.inl rfl⟩
  | drained k => exact drainCheck_laws hp hl
  | @configured k g h hg =>
    have h0 := (hl.classes k).1 h
    exact hl.classChange hp ⟨fun _ => rfl, fun _ => rfl, fun _ => h0, (hl.classes k).2, Or.inr ⟨h0, hg⟩⟩
  | @consumer c f hk hw hs =>
    refine (hl.setState hk hw).resume ?_
    rw [(hk.read s c c).2.2, State.modPort_port_same]
    rcases hs with e | e | e | ⟨h1, h2⟩
    · rw [e]
      exact hl.ports c (by simp)
    · exact Or.inl e
    · exact Or.inr (Or.inl e)
    · rcases hl.ports c (by simp) with e | e | e
      · exact absurd e h1
      · exact absurd e h2
      · exact Or.inr (Or.inr e)
  | @window c w n h hw hn =>
    have h0 : (s.port c).dispatched = 0 := by
      rcases hl.ports c (by simp) with e | e | e
      · rw [h] at e
        cases e
      · rw [h] at e
        cases e
      · exact e
    have hk : KeepsLists fun p => { p with window := w, threshold := n } :=
      ⟨fun _ => rfl, fun _ => rfl, fun _ => rfl⟩
    refine (hk.laws hl (Or.inl rfl) (by rw [h0]; exact Nat.zero_le _) ⟨hw, hn⟩).resume ?_
    exact Or.inr (Or.inr ((hk.read s c c).2.2.trans h0))
  | lost c =>
    have hk := KeepsLists.setState ConsumerState.detach
    exact (SameStore.clearSlots _ c).laws
      (returnAll_laws (hk.placed hp) (hl.setState hk fun _ => ⟨rfl, rfl⟩))
  | disabled c =>
    have hk := KeepsLists.setState fun _ => ConsumerState.off
    exact (SameStore.clearSlots _ c).laws
      (returnAll_laws (hk.placed hp) (hl.setState hk fun _ => ⟨rfl, rfl⟩))
  | device h =>
    have hc := hl.configured
    exact hl.reconfigured (SameStore.refl none s) ⟨h, hc.classes, hc.ports, hc.bankA, hc.bankB⟩
  | bank which i h =>
    refine hl.reconfigured ?_ (writeEntryOf_configured which i h hl.configured)
    cases which <;> exact SameStore.refl none s
  | emptied h hc => exact h.laws (hc hl.configured)

/-! ## Chains of moves -/

/-- A chain of moves. -/
abbrev Moves : State → State → Prop := Relation.ReflTransGen Move

theorem Moves.placed {s t : State} (h : Moves s t) (hp : Placed s) : Placed t := by
  induction h with
  | refl => exact hp
  | tail _ m ih => exact m.placed ih

theorem Moves.laws {s t : State} (h : Moves s t) (hp : Placed s) (hl : Laws none none s) : Laws none none t := by
  induction h with
  | refl => exact hl
  | tail g m ih => exact m.laws (Moves.placed g hp) ih

theorem Moves.trans {s u t : State} (h : Moves s u) (g : Moves u t) : Moves s t := Relation.ReflTransGen.trans h g

theorem Moves.single {s t : State} (h : Move s t) : Moves s t := Relation.ReflTransGen.single h

theorem Moves.same {s t : State} (h : SameStore none s t) : Moves s t := .single (.same h)

end Sys2Proof.Machine
end

section
/-! # The moves of each command -/

namespace Sys2Proof.Machine

/-! ## Steering and Admission -/

theorem moves_modLink (s : State) (l : LinkId) (f : Link → Link) : Moves s (s.modLink l f) := .same (.modLink s l f)

theorem moves_placeNotice (s : State) : Moves s (placeNotice s) := .same (.placeNotice s)

theorem moves_applyHold (s : State) : Moves s (applyHold s) := .same (.applyHold s)

theorem moves_refuse (k : ClassIdx) (s : State) : Moves s (refuse k s) :=
  .same (.modClass s k (fun _ => ⟨rfl, rfl, rfl⟩) (fun _ => rfl) fun _ => rfl)

theorem moves_overflow (k : ClassIdx) (x : Arrival) (s : State) : Moves s (overflow k x s) := by
  unfold overflow
  split
  · exact moves_refuse k s
  · split
    · exact moves_refuse k s
    · rename_i hq
      exact .single (.displaced x hq)

theorem moves_storeTests (k : ClassIdx) (x : Arrival) {s : State} (he : (s.cls k).state = .enabled) :
    Moves s (storeTests k x s) := by
  unfold storeTests
  split
  · exact moves_overflow k x s
  · rename_i hf
    split
    · rename_i hr
      exact .single (.allocated x hf he hr)
    · exact moves_overflow k x s

theorem moves_levelReport (k : ClassIdx) (x : Arrival) {s : State} (he : (s.cls k).state = .enabled) :
    Moves s (levelReport k x s) := by
  have hl : ∀ e, Moves s (s.modLevel x.addr fun _ => e) := fun e => .same (.modLevel s _ _)
  unfold levelReport
  dsimp only
  split
  · exact hl _
  · refine Moves.trans ?_ (.same (.modClass _ k (fun _ => ⟨rfl, rfl, rfl⟩) (fun _ => rfl) fun _ => rfl))
    exact (hl _).trans (.same (.coalesce _ _ _ _))
  · exact (hl _).trans (moves_storeTests k x he)

theorem moves_takeArrival (s : State) (x : Arrival) : Moves s (takeArrival s x) := by
  refine Moves.trans ?_ (moves_placeNotice _)
  unfold steer
  split
  · exact Moves.same (.ofFields rfl rfl rfl rfl rfl ⟨rfl, rfl, rfl⟩)
  · unfold takeClassified
    split
    · exact moves_refuse _ s
    · exact moves_refuse _ s
    · rename_i he
      split
      · exact moves_levelReport _ x he
      · exact moves_storeTests _ x he
      · exact moves_storeTests _ x he

/-- Transitions taken one after another. -/
theorem moves_foldl {α : Type} {f : State → α → State} (hf : ∀ s a, Moves s (f s a)) (as : List α) (s : State) :
    Moves s (as.foldl f s) := by
  induction as generalizing s with
  | nil => exact .refl
  | cons a as ih => exact (hf s a).trans (ih _)

theorem moves_catchUp (n : Fin 4) (s : State) : Moves s (catchUp n s) := by
  unfold catchUp
  split
  · exact .refl
  · refine Moves.trans ?_ (moves_foldl moves_takeArrival _ _)
    exact .same (.ofFields rfl rfl rfl rfl rfl ⟨rfl, rfl, rfl⟩)

theorem moves_catchUpAll (s : State) : Moves s (catchUpAll s) := by
  refine Moves.trans ?_ (moves_foldl moves_takeArrival _ _)
  exact .same (.ofFields rfl rfl rfl rfl rfl ⟨rfl, rfl, rfl⟩)

/-! ## Links -/

/-- The load, the state and the run of a port are not in its lists. -/
theorem moves_linkComesUp (l : LinkId) (s : State) : Moves s (linkComesUp l s) := by
  cases l with
  | source n => exact .refl
  | consumer c =>
    have hk : KeepsLists fun p : Port => if p.state = .detached then { p with state := .waiting } else p :=
      ⟨fun p => by split <;> rfl, fun p => by split <;> rfl, fun p => by split <;> rfl⟩
    refine .single (.consumer hk (fun p => by split <;> exact ⟨rfl, rfl⟩) ?_)
    by_cases h : (s.port c).state = .detached
    · exact Or.inr (Or.inr (Or.inr (by simp [h])))
    · exact Or.inl (by simp [h])

theorem moves_linkLeavesUp (l : LinkId) (s : State) : Moves s (linkLeavesUp l s) := by
  cases l with
  | source n =>
    refine Moves.trans ?_ (moves_catchUp n _)
    exact .same (.ofFields rfl rfl rfl rfl rfl ⟨rfl, rfl, rfl⟩)
  | consumer c =>
    have hf : ∀ t, Moves t (freeLeaseOf c t) := fun t => by
      unfold freeLeaseOf
      split
      · exact .same (.ofFields rfl rfl rfl rfl rfl ⟨rfl, rfl, rfl⟩)
      · exact .refl
    exact ((Moves.single (Move.lost s c)).trans (moves_modLink _ _ _)).trans
      ((hf _).trans (moves_placeNotice _))

theorem moves_goodAligning (l : LinkId) (s : State) : Moves s (goodAligning l s) := by
  unfold goodAligning
  split
  · exact (moves_modLink s l _).trans (moves_linkComesUp l _)
  · exact moves_modLink s l _

theorem moves_goodCell {k : State → State} (hk : ∀ s, Moves s (k s)) (l : LinkId) (s : State) :
    Moves s (goodCell l k s) := by
  unfold goodCell
  split
  · exact .refl
  · exact moves_goodAligning l s
  · exact (moves_modLink s l _).trans (hk _)

theorem moves_passOn {k : State → State} (hk : ∀ s, Moves s (k s)) (l : LinkId) (s : State) :
    Moves s (passOn l k s) := by
  refine moves_goodCell (fun t => ?_) l s
  split
  · exact moves_modLink t l _
  · exact hk t

theorem moves_settle (l : LinkId) (s : State) : Moves s (settle l s) := by
  cases l with
  | source n => exact moves_catchUp n s
  | consumer c => exact .refl

theorem moves_takeMalformed (l : LinkId) (s : State) : Moves s (takeMalformed l s) := by
  refine moves_goodCell (fun t => ?_) l s
  refine Moves.trans ?_ (moves_settle l _)
  exact .same (.ofFields rfl rfl rfl rfl rfl ⟨rfl, rfl, rfl⟩)

theorem moves_beginAligning (l : LinkId) (s : State) : Moves s (beginAligning l s) :=
  .same (.ofFields rfl rfl rfl rfl rfl ⟨rfl, rfl, rfl⟩)

theorem moves_badCellUp (l : LinkId) (s : State) : Moves s (badCellUp l s) := by
  have hd : ∀ t, Moves t (linkLeavesUp l (goDown l t)) := fun t =>
    (moves_modLink t l _).trans (moves_linkLeavesUp l _)
  unfold badCellUp
  dsimp only
  split
  · split
    · exact ((moves_modLink s l _).trans (hd _)).trans (moves_beginAligning l _)
    · exact (moves_modLink s l _).trans (hd _)
  · exact (moves_modLink s l _).trans (moves_modLink _ l _)

theorem moves_passEvent (x : Arrival) (s : State) : Moves s (passEvent x s) := by
  unfold passEvent
  dsimp only
  split
  · exact .same (.ofFields rfl rfl rfl rfl rfl ⟨rfl, rfl, rfl⟩)
  · refine Moves.trans (Moves.trans ?_ (moves_catchUp _ _)) (moves_takeArrival _ x)
    exact .same (.ofFields rfl rfl rfl rfl rfl ⟨rfl, rfl, rfl⟩)

/-! ## Reset and time -/

/-- POR puts the blocks that the laws of the store read at their POR values (R174). -/
structure AtPor (t : State) : Prop where
  records : t.records = State.inPor.records
  freeList : t.freeList = allRecords
  queues : t.queues = State.inPor.queues
  classes : t.classes = State.inPor.classes
  ports : t.ports = State.inPor.ports
  device : t.device = Device.por
  bankA : t.bankA = State.inPor.bankA
  bankB : t.bankB = State.inPor.bankB

theorem atPor_execPor {s t : State} (h : execPor s = .next t) : AtPor t := by
  obtain rfl := Host.Outcome.next.inj h
  constructor <;> dsimp only [State.inPor]

namespace AtPor

variable {t : State} (h : AtPor t)

include h

theorem rcd (r : RecIdx) : t.rcd r = EventRecord.por := (congrArg (Tab.nth · r) h.records).trans (Tab.nth_all _ _)

theorem queue (k : ClassIdx) : t.queue k = [] := (congrArg (Tab.nth · k) h.queues).trans (Tab.nth_all _ _)

theorem cls (k : ClassIdx) : t.cls k = ClassRecord.por := (congrArg (Tab.nth · k) h.classes).trans (Tab.nth_all _ _)

theorem port (c : ConsumerIdx) : t.port c = Port.por := (congrArg (Tab.nth · c) h.ports).trans (Tab.nth_all _ _)

end AtPor

theorem emptied_of_por {t : State} (h : AtPor t) : Emptied t where
  place r := by rw [h.rcd]; rfl
  freeList := h.freeList
  queue := h.queue
  tx c := by rw [h.port]; rfl
  waitingAck c := by rw [h.port]; rfl
  dispatched c := by rw [h.port]; rfl
  holding k := by rw [h.cls]; exact ⟨rfl, rfl⟩
  purge k := by rw [h.cls]; rfl

theorem configLawful_por : ConfigLawful ClassConfig.por := by
  unfold ConfigLawful
  decide

theorem port_por_lawful : 1 ≤ Port.por.window.val ∧ 1 ≤ Port.por.threshold.val := by decide

theorem deviceLawful_por : DeviceLawful Device.por := by
  unfold DeviceLawful
  decide

/-- POR values lie in their ranges. -/
theorem configured_of_por {t : State} (h : AtPor t) : Configured t where
  device := by rw [h.device]; exact deviceLawful_por
  classes k := by rw [h.cls]; exact configLawful_por
  ports c := by rw [h.port]; exact port_por_lawful
  bankA i := by
    have e : Tab.nth t.bankA i = SteerEntry.por := (congrArg (Tab.nth · i) h.bankA).trans (Tab.nth_all _ _)
    rw [e]
    rfl
  bankB i := by
    have e : Tab.nth t.bankB i = SteerEntry.por := (congrArg (Tab.nth · i) h.bankB).trans (Tab.nth_all _ _)
    rw [e]
    rfl

theorem EventRecord.elapse_spot (e : EventRecord) : e.elapse.place.spot = e.place.spot ∧ e.elapse.failed = e.failed := by
  unfold EventRecord.elapse
  split
  · rename_i h
    rw [h]
    exact ⟨rfl, rfl⟩
  all_goals exact ⟨rfl, rfl⟩

theorem sameStore_elapse (s : State) : SameStore none s { s with records := Tab.each s.records EventRecord.elapse } := by
  have e : ∀ r, (State.rcd { s with records := Tab.each s.records EventRecord.elapse } r) = (s.rcd r).elapse :=
    fun r => Tab.nth_each _ _ _
  exact
    { SameStore.refl none s with
      device := ⟨rfl, rfl, rfl⟩
      spot := fun r => by rw [e]; exact (EventRecord.elapse_spot _).1
      failed := fun r _ => by rw [e]; exact (EventRecord.elapse_spot _).2 }

/-! ## Consumer cells and deadlines -/

theorem moves_modPort (s : State) (c : ConsumerIdx) {f : Port → Port} (hk : KeepsLists f)
    (hr : ∀ p, SamePortRule p (f p)) : Moves s (s.modPort c f) :=
  .same (.modPort s c hr hk.tx hk.waitingAck hk.dispatched)

/-- A port whose counters and run change keeps its lists. -/
theorem moves_counters (s : State) (c : ConsumerIdx) {f : Port → Port}
    (h : ∀ p, SamePortRule p (f p) ∧ (f p).tx = p.tx ∧ (f p).waitingAck = p.waitingAck ∧
      (f p).dispatched = p.dispatched) : Moves s (s.modPort c f) :=
  moves_modPort s c ⟨fun p => (h p).2.1, fun p => (h p).2.2.1, fun p => (h p).2.2.2⟩ fun p => (h p).1

theorem moves_takeAckTag (c : ConsumerIdx) (s : State) (t : Tag) : Moves s (takeAckTag c s t) := by
  unfold takeAckTag
  split
  · refine Moves.trans (Moves.trans (Moves.trans ?_ (moves_counters _ c ?_)) (.single (.freed _ _)))
      (moves_placeNotice _)
    · exact .same (.modClass s _ (fun _ => ⟨rfl, rfl, rfl⟩) (fun _ => rfl) fun _ => rfl)
    · exact fun _ => ⟨⟨rfl, rfl, rfl⟩, rfl, rfl, rfl⟩
  · exact moves_counters s c fun _ => ⟨⟨rfl, rfl, rfl⟩, rfl, rfl, rfl⟩

/-- A failure of a dispatched record, its consumer's counters changed first. -/
theorem moves_failure {s : State} {r : RecIdx} {k : ClassIdx} {c : ConsumerIdx} (h : DispatchedTo s r k c)
    {f : Port → Port} (hf : ∀ p, SamePortRule p (f p) ∧ (f p).tx = p.tx ∧ (f p).waitingAck = p.waitingAck ∧
      (f p).dispatched = p.dispatched) :
    Moves s (failureDecision k r (chargeFailure c r (s.modPort c f))) :=
  (moves_counters s c hf).trans (.single (.failed (s := s.modPort c f) h))

theorem moves_nackBusy (c : ConsumerIdx) (tag : Tag) (s : State) :
    Moves s (match acceptedClass s c tag with
      | some k => placeNotice (busyFailure c k tag.index s)
      | none => countStale c s) := by
  split
  · rename_i h
    have hd := (acceptedClass_some_iff.mp h).1
    refine Moves.trans (moves_failure hd ?_) (moves_placeNotice _)
    exact fun _ => ⟨⟨rfl, rfl, rfl⟩, rfl, rfl, rfl⟩
  · exact moves_counters s c fun _ => ⟨⟨rfl, rfl, rfl⟩, rfl, rfl, rfl⟩

theorem moves_nackReject (c : ConsumerIdx) (tag : Tag) (s : State) :
    Moves s (match acceptedClass s c tag with
      | some _ => placeNotice (rejectRecord c tag.index s)
      | none => countStale c s) := by
  split
  · refine Moves.trans (Moves.trans (moves_counters s c ?_) (.single (.abandoned _ _ _))) (moves_placeNotice _)
    exact fun _ => ⟨⟨rfl, rfl, rfl⟩, rfl, rfl, rfl⟩
  · exact moves_counters s c fun _ => ⟨⟨rfl, rfl, rfl⟩, rfl, rfl, rfl⟩

theorem moves_takeLoad (c : ConsumerIdx) (level : Fin 16) (s : State) :
    Moves s (s.modPort c fun p => p.takeLoad level) := by
  have hk : KeepsLists fun p : Port => p.takeLoad level :=
    ⟨fun p => by unfold Port.takeLoad; split <;> rfl, fun p => by unfold Port.takeLoad; split <;> rfl,
      fun p => by unfold Port.takeLoad; split <;> rfl⟩
  refine .single (.consumer hk (fun p => by unfold Port.takeLoad; split <;> exact ⟨rfl, rfl⟩) ?_)
  unfold Port.takeLoad
  split
  · exact Or.inr (Or.inl rfl)
  · exact Or.inr (Or.inl rfl)
  all_goals exact Or.inl rfl

theorem moves_suspectCheck (c : ConsumerIdx) (s : State) : Moves s (suspectCheck c s) := by
  unfold suspectCheck
  split
  · have hm : Move s (s.modPort c fun p => { p with state := .suspect }) :=
      .consumer (KeepsLists.setState fun _ => ConsumerState.suspect) (fun _ => ⟨rfl, rfl⟩)
        (Or.inr (Or.inr (Or.inl rfl)))
    exact Moves.trans (.single hm) (Moves.same (.ofFields rfl rfl rfl rfl rfl ⟨rfl, rfl, rfl⟩))
  · exact .refl

theorem moves_expire {s : State} {r : RecIdx} {k : ClassIdx} {c : ConsumerIdx} (h : DispatchedTo s r k c) :
    Moves s (expire c k r s) := by
  refine Moves.trans (moves_failure h ?_) (moves_suspectCheck c _)
  exact fun _ => ⟨⟨rfl, rfl, rfl⟩, rfl, rfl, rfl⟩

/-! ## Grants and the transmitters -/

/-- What the Dispatcher decides is a contender, a candidate of its and the head of its queue. -/
theorem decision_some {s : State} {k : ClassIdx} {c : ConsumerIdx} {r : RecIdx} {rest : List RecIdx}
    (h : decision s = some (k, c, r, rest)) :
    isContender s k = true ∧ isCandidate s k c = true ∧ s.queue k = r :: rest := by
  unfold decision at h
  split at h
  · cases h
  · rename_i j hj
    split at h
    · cases h
    · rename_i q qs hq
      split at h
      · cases h
      · rename_i d hd
        obtain ⟨rfl, rfl, rfl, rfl⟩ : j = k ∧ d = c ∧ q = r ∧ qs = rest := by simpa using h
        refine ⟨?_, ?_, hq⟩
        · unfold chooseClass at hj
          obtain ⟨p, -, hp⟩ := List.exists_of_findSome?_eq_some hj
          exact (levelWinner_some hp).1
        · have hm : d ∈ considered s j q := by
            unfold chooseConsumer at hd
            split at hd
            · exact List.mem_of_mem_head? hd
            · have hl : ∀ cs : List ConsumerIdx, leastLoaded s cs = some d → d ∈ cs := fun cs => by
                induction cs with
                | nil => simp [leastLoaded]
                | cons a as ih =>
                  simp only [leastLoaded]
                  split
                  · simp_all
                  · rename_i e he
                    split
                    · simp_all
                    · simp_all
              have := hl _ hd
              simpa using (List.mem_filter.mp this).2
          exact (mem_considered.mp hm).1

theorem moves_putOnWire (l : LinkId) (x : OutCell) (s : State) : Moves s (putOnWire l x s) := moves_modLink s l _

theorem moves_consumerSlot (c : ConsumerIdx) (s : State) : Moves s (consumerSlot c s) := by
  unfold consumerSlot
  split
  · refine Moves.trans (moves_counters s c ?_) (moves_putOnWire _ _ _)
    exact fun _ => ⟨⟨rfl, rfl, rfl⟩, rfl, rfl, rfl⟩
  · split
    · refine Moves.trans (Moves.trans (moves_counters s c ?_) (moves_putOnWire _ _ _)) (moves_placeNotice _)
      exact fun _ => ⟨⟨rfl, rfl, rfl⟩, rfl, rfl, rfl⟩
    · split
      · exact moves_putOnWire _ _ _
      · exact moves_putOnWire _ _ _

theorem moves_deliverSent (c : ConsumerIdx) (d : Deliver) (s : State) : Moves s (deliverSent c d s) := by
  unfold deliverSent
  split
  · rename_i k x h
    split
    · rename_i e
      subst e
      exact .single (.sent h)
    · exact .refl
  all_goals exact .refl

/-! ## Requests -/

/-- Carrying out the operation makes moves alone. -/
def OpMoves (op : State → Answer) : Prop := ∀ s, Moves s (op s).state

theorem moves_request {op : State → Answer} (h : OpMoves op) (c : ConsumerIdx) (seq : Byte) (s : State) :
    Moves s (request c seq op s) := by
  have hw : ∀ t, Moves t (renewLease c t) := fun t => .same (.renewLease t c)
  have hc : ∀ t, Moves t (carryOut c seq op t) := fun t => by
    unfold carryOut
    dsimp only
    split
    · exact h t
    · refine Moves.trans (Moves.trans (Moves.trans (h t) (moves_counters _ c ?_)) (moves_counters _ c ?_)) (hw _)
      all_goals exact fun _ => ⟨⟨rfl, rfl, rfl⟩, rfl, rfl, rfl⟩
  refine moves_passOn (fun t => ?_) _ s
  unfold intake
  split
  · exact moves_counters t c fun _ => ⟨⟨rfl, rfl, rfl⟩, rfl, rfl, rfl⟩
  · split
    · exact hc t
    · split
      · refine Moves.trans (Moves.trans (moves_counters t c ?_) (moves_counters _ c ?_)) (hw _)
        all_goals exact fun _ => ⟨⟨rfl, rfl, rfl⟩, rfl, rfl, rfl⟩
      · exact hc t

theorem OpMoves.deny (x : Status) : OpMoves (deny x) := fun _ => .refl

theorem OpMoves.holderOnly {op : State → Answer} (h : OpMoves op) (c : ConsumerIdx) : OpMoves (holderOnly c op) :=
  fun s => by
    unfold Machine.holderOnly
    split
    · exact h s
    · exact .refl

theorem opMoves_claim (c : ConsumerIdx) : OpMoves (opClaim c) := fun s => by
  unfold opClaim
  dsimp only
  split
  · refine Moves.trans ?_ (moves_placeNotice _)
    exact .same (.ofFields rfl rfl rfl rfl rfl ⟨rfl, rfl, rfl⟩)
  · split <;> exact .refl

theorem opMoves_read (table : Byte) (index : Half) (page : Byte) : OpMoves (opRead table index page) := fun s => by
  unfold opRead
  split
  · exact .refl
  · split <;> exact .refl

theorem deviceOf_lawful {p : Page} {d : Device} (h : deviceOf p = some d) : DeviceLawful d := by
  unfold deviceOf at h
  dsimp only at h
  split at h
  · rename_i hv
    obtain rfl := Option.some.inj h
    exact ⟨hv.1, hv.2.1, hv.2.2.1⟩
  · cases h

theorem steerOf_valid {p : Page} {e : SteerEntry} (h : steerOf p = some e) : steerValid e = true := by
  unfold steerOf at h
  split at h
  · dsimp only at h
    split at h
    · rename_i hv
      obtain rfl := Option.some.inj h
      exact hv
    · cases h
  · cases h

theorem classOf_lawful {p : Page} {g : ClassConfig} (h : classOf p = some g) : ConfigLawful g := by
  unfold classOf at h
  dsimp only at h
  split at h
  · split at h
    · rename_i hv
      obtain rfl := Option.some.inj h
      exact ⟨hv.1, hv.2.1, hv.2.2.2.1, hv.2.2.2.2.2.1⟩
    · cases h
  · cases h

theorem consumerOf_lawful {p : Page} {w : Fin 9} {n : Fin 16} (h : consumerOf p = some (w, n)) :
    1 ≤ w.val ∧ 1 ≤ n.val := by
  unfold consumerOf at h
  split at h
  · rename_i hv
    obtain ⟨rfl, rfl⟩ := Prod.mk.inj (Option.some.inj h)
    exact ⟨hv.1, hv.2.2.1⟩
  · cases h

theorem opMoves_writeDevice (index : Half) (page : Byte) (image : Page) : OpMoves (opWriteDevice index page image) :=
  fun s => by
    unfold opWriteDevice
    split
    · split
      · exact .refl
      · split
        · exact .refl
        · rename_i d hd
          exact (Moves.single (Move.device (deviceOf_lawful hd))).trans
            ((Moves.same (.applyHold _)).trans (moves_placeNotice _))
    · exact .refl

theorem opMoves_writeSteering (which : Bank) (index : Half) (page : Byte) (image : Page) :
    OpMoves (opWriteSteering which index page image) := fun s => by
  unfold opWriteSteering
  split
  · split
    · exact .refl
    · split
      · exact .refl
      · split
        · exact .refl
        · rename_i e he
          exact .single (.bank which _ (steerOf_valid he))
  · exact .refl

theorem opMoves_writeClass (index : Half) (page : Byte) (image : Page) : OpMoves (opWriteClass index page image) :=
  fun s => by
    unfold opWriteClass
    split
    · split
      · exact .refl
      · split
        · exact .refl
        · rename_i hs
          split
          · exact .refl
          · rename_i g hg
            exact .single (.configured (Decidable.of_not_not hs) (classOf_lawful hg))
    · exact .refl

theorem opMoves_writeConsumer (index : Half) (page : Byte) (image : Page) :
    OpMoves (opWriteConsumer index page image) := fun s => by
  unfold opWriteConsumer
  split
  · split
    · exact .refl
    · split
      · exact .refl
      · rename_i hs
        split
        · exact .refl
        · rename_i w n hwn
          obtain ⟨hw, hn⟩ := consumerOf_lawful hwn
          exact .single (.window (Decidable.of_not_not hs) hw hn)
  · exact .refl

theorem opMoves_write (table : Byte) (index : Half) (page : Byte) (image : Page) :
    OpMoves (opWrite table index page image) := fun s => by
  unfold opWrite
  split
  · exact .refl
  · split
    · exact opMoves_writeDevice index page image s
    · exact opMoves_writeSteering _ index page image s
    · exact opMoves_writeClass index page image s
    · exact opMoves_writeConsumer index page image s
    all_goals exact .refl

theorem opMoves_swap : OpMoves opSwap := fun s => by
  unfold opSwap
  split
  · exact .refl
  · exact .same (.ofFields rfl rfl rfl rfl rfl ⟨rfl, rfl, rfl⟩)

theorem opMoves_classEnable (index : Half) : OpMoves (opClassEnable index) := fun s => by
  unfold opClassEnable
  split
  · unfold enableClass
    split
    · rename_i h
      split
      · exact .refl
      · exact .single (.opened h)
    · exact .single (.reopened s _)
    · exact .refl
  · exact .refl

theorem moves_closeClass (k : ClassIdx) (purge : Bool) (s : State) : Moves s (closeClass k purge s) := by
  unfold closeClass
  dsimp only
  refine Moves.trans (.single (.closed s k purge)) (Moves.trans ?_ (.single (.drained _ k)))
  split
  · exact moves_foldl (fun t r => .single (.abandoned t r .purged)) _ _
  · exact .refl

theorem opMoves_classDisable (index : Half) (flag : Byte) : OpMoves (opClassDisable index flag) := fun s => by
  unfold opClassDisable
  split
  · split
    · exact .refl
    · unfold disableClass
      split
      · exact .refl
      · exact (moves_closeClass _ _ s).trans (moves_placeNotice _)
      · split
        · exact (moves_closeClass _ _ s).trans (moves_placeNotice _)
        · exact .refl
  · exact .refl

theorem opMoves_consumerEnable (index : Half) : OpMoves (opConsumerEnable index) := fun s => by
  unfold opConsumerEnable
  split
  · unfold enableConsumer
    split
    · rename_i h
      exact .single (.consumer (KeepsLists.setState fun _ => inService _) (fun _ => ⟨rfl, rfl⟩)
        (Or.inr (Or.inr (Or.inr (by simp [h])))))
    all_goals exact .refl
  · exact .refl

theorem opMoves_consumerDisable (index : Half) : OpMoves (opConsumerDisable index) := fun s => by
  unfold opConsumerDisable
  split
  · unfold disableConsumer
    split
    · exact .refl
    · exact (Moves.single (Move.disabled s _)).trans (moves_placeNotice _)
  · exact .refl

theorem opMoves_takeLog (index : Half) (page : Byte) : OpMoves (opTakeLog index page) := fun s => by
  unfold opTakeLog
  split
  · split
    · exact .refl
    · split
      · exact .refl
      · dsimp only [okay]
        split
        · exact .same (.ofFields rfl rfl rfl rfl rfl ⟨rfl, rfl, rfl⟩)
        · exact .refl
  · exact .refl

theorem opMoves_clearCounts : OpMoves opClearCounts := fun s => .same <| by
  have ec : ∀ k, (opClearCounts s).state.cls k = (s.cls k).cleared := fun k => Tab.nth_each _ _ _
  have ep : ∀ c, (opClearCounts s).state.port c = (s.port c).cleared := fun c => Tab.nth_each _ _ _
  exact
    { SameStore.refl none s with
      device := ⟨rfl, rfl, rfl⟩
      rule := fun k => by rw [ec]; exact ⟨rfl, rfl, rfl⟩
      pendingCount := fun k => by rw [ec]; rfl
      dispatchedCount := fun k => by rw [ec]; rfl
      portRule := fun c => by rw [ep]; exact ⟨rfl, rfl, rfl⟩
      tx := fun c => by rw [ep]; rfl
      waitingAck := fun c => by rw [ep]; rfl
      dispatched := fun c => by rw [ep]; rfl }

/-! ## The soft restart -/

/-- Entries changed one after another, each once. -/
theorem nth_foldl_upd {α : Type} {n : Nat} (f : Fin n → α → α) (js : List (Fin n)) (hn : js.Nodup) (t : Tab α n)
    (i : Fin n) :
    Tab.nth (js.foldl (fun u j => Tab.upd u j (f j)) t) i = if i ∈ js then f i (Tab.nth t i) else Tab.nth t i := by
  induction js generalizing t with
  | nil => simp
  | cons j js ih =>
    obtain ⟨hj, hn⟩ := List.nodup_cons.mp hn
    rw [List.foldl_cons, ih hn, Tab.nth_upd]
    by_cases h1 : i = j
    · subst h1
      simp [hj]
    · simp [h1]

theorem nth_restartPorts (keep : Bool) (s : State) (c : ConsumerIdx) :
    Tab.nth (restartPorts keep s) c = (s.port c).restarted keep (s.link (.consumer c)).state := by
  unfold restartPorts
  rw [nth_foldl_upd _ _ (by decide), if_pos (mem_allConsumers c)]
  rfl

theorem EventRecord.emptied_place (e : EventRecord) : e.emptied.place = .free := by
  unfold EventRecord.emptied
  split <;> rfl

theorem emptied_emptyBlocks (job : RestartJob) (s : State) : Emptied (emptyBlocks job s) := by
  have ec : ∀ k, (emptyBlocks job s).cls k = (s.cls k).restarted job.retain := fun k => Tab.nth_each _ _ _
  have ep : ∀ c, (emptyBlocks job s).port c = (s.port c).restarted job.retain (s.link (.consumer c)).state :=
    nth_restartPorts job.retain s
  have hc : ∀ x : ClassRecord, (x.restarted job.retain).pendingCount = 0 ∧
      (x.restarted job.retain).dispatchedCount = 0 ∧ (x.restarted job.retain).purge = false := fun x => by
    unfold ClassRecord.restarted
    split <;> exact ⟨rfl, rfl, rfl⟩
  have hp : ∀ (x : Port) l, (x.restarted job.retain l).tx = [] ∧ (x.restarted job.retain l).waitingAck = [] ∧
      (x.restarted job.retain l).dispatched = 0 := fun x l => by
    unfold Port.restarted
    split <;> exact ⟨rfl, rfl, rfl⟩
  exact
    { place := fun r => by
        have : (emptyBlocks job s).rcd r = (s.rcd r).emptied := Tab.nth_each _ _ _
        rw [this, EventRecord.emptied_place]
      freeList := by dsimp only [emptyBlocks]
      queue := fun k => Tab.nth_all _ _
      tx := fun c => by rw [ep]; exact (hp _ _).1
      waitingAck := fun c => by rw [ep]; exact (hp _ _).2.1
      dispatched := fun c => by rw [ep]; exact (hp _ _).2.2
      holding := fun k => by rw [ec]; exact ⟨(hc _).1, (hc _).2.1⟩
      purge := fun k => by rw [ec]; exact (hc _).2.2 }

/-- A soft restart keeps the configuration or puts it at its POR values (R160). -/
theorem configured_emptyBlocks (job : RestartJob) {s : State} (hc : Configured s) : Configured (emptyBlocks job s) where
  device := by
    show DeviceLawful (if job.retain then s.device else Device.por)
    split
    · exact hc.device
    · exact deviceLawful_por
  classes k := by
    have e : (emptyBlocks job s).cls k = (s.cls k).restarted job.retain := Tab.nth_each _ _ _
    rw [e]
    unfold ClassRecord.restarted
    split
    · exact hc.classes k
    · exact configLawful_por
  ports c := by
    have e : (emptyBlocks job s).port c = (s.port c).restarted job.retain (s.link (.consumer c)).state :=
      nth_restartPorts job.retain s c
    rw [e]
    unfold Port.restarted
    split
    · exact hc.ports c
    · exact port_por_lawful
  bankA i := by
    show steerValid (Tab.nth (if job.retain then s.bankA else Tab.all 64 SteerEntry.por) i) = true
    split
    · exact hc.bankA i
    · rw [Tab.nth_all]
      rfl
  bankB i := by
    show steerValid (Tab.nth (if job.retain then s.bankB else Tab.all 64 SteerEntry.por) i) = true
    split
    · exact hc.bankB i
    · rw [Tab.nth_all]
      rfl

theorem opMoves_restart (c : ConsumerIdx) (seq flag : Byte) : OpMoves (opRestart c seq flag) := fun s => by
  unfold opRestart
  split
  · exact .refl
  · split
    · exact .refl
    · exact (moves_catchUpAll s).trans (.single (.emptied (emptied_emptyBlocks _ _) (configured_emptyBlocks _)))

theorem moves_finishRestart (job : RestartJob) (s : State) : Moves s (finishRestart job s) := by
  have hr : SameStore none s { s with ports := Tab.each s.ports fun p => { p with replay := none } } := by
    have ep : ∀ c, State.port { s with ports := Tab.each s.ports fun p => { p with replay := none } } c =
        { s.port c with replay := none } := fun c => Tab.nth_each _ _ _
    exact
      { SameStore.refl none s with
        device := ⟨rfl, rfl, rfl⟩
        portRule := fun c => by rw [ep]; exact ⟨rfl, rfl, rfl⟩
        tx := fun c => by rw [ep]
        waitingAck := fun c => by rw [ep]
        dispatched := fun c => by rw [ep] }
  have hp : ∀ t (x : Response), Moves t (t.modPort job.requester fun p => { p with replay := some x }) := fun t x =>
    moves_counters t _ fun _ => ⟨⟨rfl, rfl, rfl⟩, rfl, rfl, rfl⟩
  have hq : ∀ t (x : Response), Moves t (placeResponse job.requester x t) := fun t x =>
    moves_counters t _ fun _ => ⟨⟨rfl, rfl, rfl⟩, rfl, rfl, rfl⟩
  have he : ∀ t : State, Moves t (applyHold { t with restart := none }) := fun t => by
    refine Moves.trans ?_ (moves_applyHold _)
    exact .same (.ofFields rfl rfl rfl rfl rfl ⟨rfl, rfl, rfl⟩)
  unfold finishRestart
  dsimp only
  refine Moves.trans ?_ (he _)
  split
  · exact ((Moves.same hr).trans (hp _ _)).trans (hq _ _)
  · exact (Moves.same hr).trans (hp _ _)

/-! ## Every command -/

theorem moves_por {s t : State} (h : execPor s = .next t) : Moves s t :=
  .single (.emptied (emptied_of_por (atPor_execPor h)) fun _ => configured_of_por (atPor_execPor h))

theorem moves_execResetRelease {s t : State} (h : execResetRelease s = .next t) : Moves s t := by
  obtain rfl := Host.Outcome.next.inj h
  split
  · exact .same (.ofFields rfl rfl rfl rfl rfl ⟨rfl, rfl, rfl⟩)
  · exact .refl

theorem moves_execSignalPresent {s t : State} {l : LinkId} (h : execSignalPresent l s = .next t) : Moves s t := by
  obtain rfl := Host.Outcome.next.inj h
  split
  · exact (moves_modLink s l _).trans (moves_beginAligning l _)
  · exact moves_modLink s l _

theorem moves_execLossOfSignal {s t : State} {l : LinkId} (h : execLossOfSignal l s = .next t) : Moves s t := by
  obtain rfl := Host.Outcome.next.inj h
  split
  · exact moves_modLink s l _
  · exact (moves_modLink s l _).trans (moves_modLink _ l _)
  · exact ((moves_modLink s l _).trans (moves_modLink _ l _)).trans (moves_linkLeavesUp l _)

theorem moves_execGoodCellAligning {s t : State} {l : LinkId} (h : execGoodCellAligning l s = .next t) : Moves s t := by
  obtain rfl := Host.Outcome.next.inj h
  split
  · exact .refl
  · exact moves_goodAligning l s
  · exact .refl

theorem moves_execBadCell {s t : State} {l : LinkId} (h : execBadCell l s = .next t) : Moves s t := by
  obtain rfl := Host.Outcome.next.inj h
  split
  · exact .refl
  · exact moves_modLink s l _
  · exact moves_badCellUp l s

theorem moves_execMalformedCell {s t : State} {l : LinkId} (h : execMalformedCell l s = .next t) : Moves s t := by
  obtain rfl := Host.Outcome.next.inj h
  exact moves_takeMalformed l s

theorem moves_execIdle {s t : State} {l : LinkId} (h : execIdle l s = .next t) : Moves s t := by
  obtain rfl := Host.Outcome.next.inj h
  exact moves_goodCell (moves_settle l) l s

theorem moves_execEvent {s t : State} {n : Fin 4} {m : Fin 16} {ch : Fin 64} {kind : Kind} {datum : Half}
    (h : execEvent n m ch kind datum s = .next t) : Moves s t := by
  obtain rfl := Host.Outcome.next.inj h
  split
  · exact moves_passOn (fun t => moves_passEvent _ t) _ s
  · exact moves_takeMalformed _ s

theorem moves_execAck {s t : State} {c : Fin 6} {tags : List Tag} (h : execAck c tags s = .next t) : Moves s t := by
  obtain rfl := Host.Outcome.next.inj h
  split
  · exact moves_passOn (moves_foldl (moves_takeAckTag c) tags) _ s
  · exact moves_takeMalformed _ s

theorem moves_execNackBusy {s t : State} {c : Fin 6} {tag : Tag} (h : execNackBusy c tag s = .next t) : Moves s t := by
  obtain rfl := Host.Outcome.next.inj h
  exact moves_passOn (moves_nackBusy c tag) _ s

theorem moves_execNackReject {s t : State} {c : Fin 6} {tag : Tag} (h : execNackReject c tag s = .next t) : Moves s t := by
  obtain rfl := Host.Outcome.next.inj h
  exact moves_passOn (moves_nackReject c tag) _ s

theorem moves_execLoad {s t : State} {c : Fin 6} {level : Fin 16} (h : execLoad c level s = .next t) : Moves s t := by
  obtain rfl := Host.Outcome.next.inj h
  exact moves_passOn (moves_takeLoad c level) _ s

theorem moves_execExpiry {s t : State} {r : Fin 512} (h : execExpiry r s = .next t) : Moves s t := by
  obtain rfl := Host.Outcome.next.inj h
  split
  · rename_i k c d hr
    split
    · exact Moves.trans (moves_expire (Or.inr ⟨d, hr⟩)) (moves_placeNotice _)
    · exact .refl
  all_goals exact .refl

theorem moves_execGrant {s t : State} (h : execGrant s = .next t) : Moves s t := by
  obtain rfl := Host.Outcome.next.inj h
  split
  · exact .refl
  · split
    · exact .refl
    · rename_i hd
      obtain ⟨hk, hc, hq⟩ := decision_some hd
      exact .single (.granted hq hk hc)

theorem moves_execCellSlot {s t : State} {l : LinkId} (h : execCellSlot l s = .next t) : Moves s t := by
  obtain rfl := Host.Outcome.next.inj h
  split
  · exact .refl
  · split
    · exact moves_putOnWire _ _ _
    · split
      · exact .refl
      · split
        · exact moves_putOnWire _ _ _
        · exact moves_putOnWire _ _ _
        · exact moves_consumerSlot _ s

theorem moves_execSendCompletion {s t : State} {c : Fin 6} (h : execSendCompletion c s = .next t) : Moves s t := by
  obtain rfl := Host.Outcome.next.inj h
  split
  · exact .refl
  · exact moves_modLink s _ _
  · split
    · exact (moves_modLink s _ _).trans (moves_deliverSent c _ _)
    all_goals exact .refl

theorem moves_execLeaseTimerExpiry {s t : State} (h : execLeaseTimerExpiry s = .next t) : Moves s t := by
  obtain rfl := Host.Outcome.next.inj h
  split
  · exact .refl
  · split
    · exact .same (.ofFields rfl rfl rfl rfl rfl ⟨rfl, rfl, rfl⟩)
    · exact .refl

theorem moves_execEndOfRestart {s t : State} (h : execEndOfRestart s = .next t) : Moves s t := by
  obtain rfl := Host.Outcome.next.inj h
  split
  · exact .refl
  · exact moves_finishRestart _ s

theorem moves_execTimebaseCount {s t : State} (h : execTimebaseCount s = .next t) : Moves s t := by
  obtain rfl := Host.Outcome.next.inj h
  split
  · exact .refl
  · exact (Moves.same (sameStore_elapse s)).trans (.same (.ofFields rfl rfl rfl rfl rfl ⟨rfl, rfl, rfl⟩))

/-- A request whose operation makes moves alone. -/
theorem moves_of_request {op : State → Answer} (ho : OpMoves op) {c : ConsumerIdx} {seq : Byte} {s t : State}
    (h : (.next (request c seq op s) : Result) = .next t) : Moves s t := by
  obtain rfl := Host.Outcome.next.inj h
  exact moves_request ho c seq s

/-- Every command makes a chain of moves. -/
theorem exec_moves {i : Instr} {s t : State} (h : exec i s = .next t) : Moves s t := by
  cases i with
  | por => exact moves_por h
  | resetRelease => exact moves_execResetRelease h
  | signalPresent l => exact moves_execSignalPresent h
  | lossOfSignal l => exact moves_execLossOfSignal h
  | goodCellAligning l => exact moves_execGoodCellAligning h
  | badCell l => exact moves_execBadCell h
  | malformedCell l => exact moves_execMalformedCell h
  | idle l => exact moves_execIdle h
  | event n m ch kind datum => exact moves_execEvent h
  | ack c tags => exact moves_execAck h
  | nackBusy c tag => exact moves_execNackBusy h
  | nackReject c tag => exact moves_execNackReject h
  | load c level => exact moves_execLoad h
  | expiry r => exact moves_execExpiry h
  | grant => exact moves_execGrant h
  | cellSlot l => exact moves_execCellSlot h
  | sendCompletion c => exact moves_execSendCompletion h
  | leaseTimerExpiry => exact moves_execLeaseTimerExpiry h
  | endOfRestart => exact moves_execEndOfRestart h
  | timebaseCount => exact moves_execTimebaseCount h
  | badOp c seq op => exact moves_of_request (.deny _) h
  | claim c seq => exact moves_of_request (opMoves_claim c) h
  | read c seq table index page => exact moves_of_request (opMoves_read table index page) h
  | release c seq =>
    exact moves_of_request (OpMoves.holderOnly (fun _ => .same (.ofFields rfl rfl rfl rfl rfl ⟨rfl, rfl, rfl⟩)) c) h
  | write c seq table index page image =>
    exact moves_of_request ((opMoves_write table index page image).holderOnly c) h
  | writeDevice c seq index page image =>
    exact moves_of_request ((opMoves_writeDevice index page image).holderOnly c) h
  | writeSteering c seq which index page image =>
    exact moves_of_request ((opMoves_writeSteering which index page image).holderOnly c) h
  | writeClass c seq index page image => exact moves_of_request ((opMoves_writeClass index page image).holderOnly c) h
  | writeConsumer c seq index page image =>
    exact moves_of_request ((opMoves_writeConsumer index page image).holderOnly c) h
  | swap c seq => exact moves_of_request (opMoves_swap.holderOnly c) h
  | classEnable c seq index => exact moves_of_request ((opMoves_classEnable index).holderOnly c) h
  | classDisable c seq index flag => exact moves_of_request ((opMoves_classDisable index flag).holderOnly c) h
  | consumerEnable c seq index => exact moves_of_request ((opMoves_consumerEnable index).holderOnly c) h
  | consumerDisable c seq index => exact moves_of_request ((opMoves_consumerDisable index).holderOnly c) h
  | setTime c seq value =>
    exact moves_of_request (OpMoves.holderOnly (fun _ => .same (.ofFields rfl rfl rfl rfl rfl ⟨rfl, rfl, rfl⟩)) c) h
  | takeLog c seq index page => exact moves_of_request ((opMoves_takeLog index page).holderOnly c) h
  | clearCounts c seq => exact moves_of_request (opMoves_clearCounts.holderOnly c) h
  | freeze c seq =>
    exact moves_of_request (OpMoves.holderOnly (fun _ => .same (.ofFields rfl rfl rfl rfl rfl ⟨rfl, rfl, rfl⟩)) c) h
  | restart c seq flag => exact moves_of_request ((opMoves_restart c seq flag).holderOnly c) h

/-- Every step makes a chain of moves. -/
theorem step_moves {s t : State} (h : step s = .next t) : Moves s t := by
  unfold step at h
  split at h
  · obtain rfl := Host.Outcome.next.inj h
    exact .refl
  · refine Moves.trans ?_ (exec_moves h)
    exact .same (.ofFields rfl rfl rfl rfl rfl ⟨rfl, rfl, rfl⟩)

/-! ## The obligations -/

/-- Settles O55: every move of a step keeps each record in exactly the collection of its state. -/
theorem everyStepKeepsRecordsPlaced : Obligations.EveryStepKeepsRecordsPlaced :=
  fun _ _ hp h => (step_moves h).placed hp

/-- Settles O56: every move of a step keeps the counts and the limits. -/
theorem everyStepKeepsLimits : Obligations.EveryStepKeepsLimits := by
  rintro s t ⟨hp, hc, hk, hports, hlim, hatt, hcfg⟩ h
  have hl : Laws none none s := ⟨hc, hk, fun c _ => hports c, hlim, fun r k _ => hatt r k, hcfg⟩
  have ht := (step_moves h).laws hp hl
  exact ⟨ht.counted, ht.classes, fun c => ht.ports c (by simp), ht.limits, fun r k => ht.attempts r k (by simp),
    ht.configured⟩

end Sys2Proof.Machine
end

section
/-! # The store after POR and the laws at reset -/

namespace Sys2Proof.Machine

/-- Settles O3: POR puts every block at its POR values, whatever the state (R20). -/
theorem storeAfterPor : Obligations.StoreAfterPor := by
  intro s
  obtain ⟨t, ht⟩ : ∃ t, exec .por s = .next t := ⟨_, rfl⟩
  have h : AtPor t := atPor_execPor ht
  refine ⟨t, ht, h.rcd, h.freeList, h.queue, fun c => ?_, ?_, fun k => ?_⟩
  · rw [h.port]
    exact ⟨rfl, rfl⟩
  · unfold State.freeCount
    rw [h.freeList]
    exact List.length_finRange
  · rw [h.cls]
    exact ⟨rfl, rfl⟩

/-! ## The state right after reset, part by part -/

theorem reset_atPor : AtPor State.reset := by constructor <;> dsimp only [State.reset, State.inPor]

theorem reset_link (l : LinkId) : State.reset.link l = { Link.por with wire := .sending .idle } := Tab.nth_all _ _

theorem reset_levels (i : Fin 4096) : Tab.nth State.reset.levels i = LevelEntry.por := Tab.nth_all _ _

theorem reset_handed (n : Fin 4) : Tab.nth State.reset.handed n = [] := Tab.nth_all _ _

/-- At reset every record is FREE, so the free count is above both watermarks. -/
theorem reset_hold : HoldLawful State.reset := by
  have hf : State.reset.freeCount = 512 := by
    unfold State.freeCount
    rw [reset_atPor.freeList]
    exact List.length_finRange
  have hd := reset_atPor.device
  have hh : State.reset.hold = .released := by dsimp only [State.reset, State.inPor]
  unfold HoldLawful
  rw [hf, hd, hh]
  exact ⟨fun _ => by decide, nofun⟩

/-- Settles O6: the store is empty, and every other block is at its POR values. -/
theorem lawsHoldAtReset : Obligations.LawsHoldAtReset := by
  have hl := (emptied_of_por reset_atPor).laws (configured_of_por reset_atPor)
  refine ⟨(emptied_of_por reset_atPor).placed, hl.counted, hl.classes, fun c => hl.ports c (by simp), hl.limits,
    fun r k => hl.attempts r k (by simp), ?_, ?_, ?_, ?_, ?_, hl.configured, reset_hold, Or.inl ?_, ?_, ?_⟩
  · intro i r h
    rw [reset_levels] at h
    cases h
  · exact List.Perm.of_eq (by dsimp only [State.reset, State.inPor])
  · have h : State.reset.log = [] := by dsimp only [State.reset, State.inPor]
    unfold LogWithinCapacity
    rw [h]
    exact Nat.zero_le _
  · intro x h
    have hn : State.reset.lease = none := by dsimp only [State.reset, State.inPor]
    rw [hn] at h
    cases h
  · intro l
    rw [reset_link]
    exact ⟨fun _ => rfl, fun _ => rfl⟩
  · dsimp only [State.reset, State.inPor]
  · intro c
    rw [reset_atPor.port, reset_link]
    simp [Port.por, Link.por]
  · intro n x h
    rw [reset_handed] at h
    cases h

end Sys2Proof.Machine
end

section
/-! # Stale tags, early expiries, the end of a DELIVER, and the grant -/

namespace Sys2Proof.Machine

/-! ## Stale tags and early expiries -/

/-- A tag that is accepted for no class is stale (R16). -/
theorem acceptedClass_none {s : State} {c : ConsumerIdx} {tag : Tag} (h : ∀ k, ¬ Accepted s c tag k) :
    acceptedClass s c tag = none :=
  Option.eq_none_iff_forall_ne_some.mpr fun k e => h k (acceptedClass_some_iff.mp e)

/-- A consumer cell with one stale tag, whatever its type, counts it. -/
theorem exec_stale {c : Fin 6} {tag : Tag} {s : State} (hp : Passing s (.consumer c)) (hn : ∀ k, ¬ Accepted s c tag k)
    {i : Instr} (hi : i = .ack c [tag] ∨ i = .nackBusy c tag ∨ i = .nackReject c tag) :
    exec i s = .next (countStale c (s.modLink (.consumer c) Link.heard)) := by
  have ha : acceptedClass (s.modLink (.consumer c) Link.heard) c tag = none := acceptedClass_none hn
  have hk : ∀ k : State → State, passOn (.consumer c) k s = k (s.modLink (.consumer c) Link.heard) :=
    passOn_up hp.up hp.noRestart
  rcases hi with rfl | rfl | rfl
  · show execAck c [tag] s = _
    rw [execAck, if_pos (by rfl), hk, List.foldl_cons, List.foldl_nil, takeAckTag, ha]
  · show execNackBusy c tag s = _
    rw [execNackBusy, hk, ha]
  · show execNackReject c tag s = _
    rw [execNackReject, hk, ha]

/-- Settles O25, from what an EXPIRY and a stale tag each do. -/
theorem staleTagsAndEarlyExpiries : Obligations.StaleTagsAndEarlyExpiries := by
  refine ⟨fun r s h => ?_, fun c tag s hp hn i hi => ⟨_, exec_stale hp hn hi, rfl, ⟨?_, ?_⟩, ?_, ?_⟩⟩
  · show execExpiry r s = _
    unfold execExpiry
    split
    · rename_i k c d hd
      rw [if_neg]
      rintro rfl
      exact h k c hd
    all_goals rfl
  · exact State.modLink_link_same s _ _
  · exact fun m hm => State.modLink_link_ne s _ _ hm
  · exact fun d hd => State.modPort_port_ne _ _ _ hd
  · exact State.modPort_port_same _ _ _

/-! ## The end of a DELIVER -/

/-- The wire of consumer `c` falls quiet. -/
def quieted (c : ConsumerIdx) (s : State) : State := s.modLink (.consumer c) fun x => { x with wire := .quiet }

theorem quieted_link (c : ConsumerIdx) (s : State) :
    (quieted c s).link (.consumer c) = { s.link (.consumer c) with wire := .quiet } ∧
      OnlyLink (.consumer c) s (quieted c s) :=
  ⟨State.modLink_link_same s _ _, fun _ hm => State.modLink_link_ne s _ _ hm⟩

/-- What SEND_COMPLETION does goes by the wire alone (R98, R99). -/
theorem exec_sendCompletion (c : Fin 6) (s : State) : exec (.sendCompletion c) s =
    .next (match (s.link (.consumer c)).wire with
      | .sending (.deliver d) => deliverSent c d (quieted c s)
      | .finishing _ => quieted c s
      | _ => s) := by
  show execSendCompletion c s = _
  unfold execSendCompletion
  cases (s.link (.consumer c)).wire with
  | sending x => cases x <;> rfl
  | _ => rfl

theorem deliverSent_queued {c : ConsumerIdx} {d : Deliver} {s : State} {k : ClassIdx}
    (h : (s.rcd d.tag.index).place = .queued k c) : deliverSent c d s = sendRecord c k d.tag.index s := by
  unfold deliverSent
  rw [h]
  exact if_pos rfl

theorem deliverSent_withdrawn {c : ConsumerIdx} {d : Deliver} {s : State}
    (h : ∀ k, (s.rcd d.tag.index).place ≠ .queued k c) : deliverSent c d s = s := by
  unfold deliverSent
  split
  · rename_i k x hx
    rw [if_neg]
    rintro rfl
    exact h k hx
  all_goals rfl

/-- Settles O32, by what is on the wire and where its record stands. -/
theorem sendCompletionStartsDeadline : Obligations.SendCompletionStartsDeadline := by
  intro c s
  obtain ⟨hl, ho⟩ := quieted_link c s
  refine ⟨fun d k hw hd => ?_, fun d hd => ⟨quieted c s, ?_, rfl, ho, hl⟩, fun hw => ?_⟩
  · refine ⟨sendRecord c k d.tag.index (quieted c s), ?_, rfl, ho, hl, fun q hq => ?_, ?_, fun e he => ?_, ?_⟩
    · have := deliverSent_queued (s := quieted c s) hd
      rw [exec_sendCompletion, hw]
      exact congrArg _ this
    · rw [sendRecord_rcd, if_neg hq]
      rfl
    · rw [sendRecord_rcd, if_pos rfl]
      rfl
    · rw [sendRecord_port, if_neg he]
      rfl
    · rw [sendRecord_port, if_pos rfl]
      rfl
  · rw [exec_sendCompletion]
    rcases hd with hw | ⟨hw, hk⟩
    · rw [hw]
    · have := deliverSent_withdrawn (s := quieted c s) hk
      rw [hw]
      exact congrArg _ this
  · rw [exec_sendCompletion]
    split
    · rename_i d h
      exact absurd h (hw d).2
    · rename_i d h
      exact absurd h (hw d).1
    · rfl

/-! ## The grant -/

/-- A class that contends has a head record and a candidate, so the Dispatcher decides (R107). -/
theorem decision_of_contender {s : State} (hg : GrantOrderLawful s) (h : ∃ j, isContender s j = true) :
    ∃ k c r rest, decision s = some (k, c, r, rest) := by
  obtain ⟨k, hk, hc, -⟩ := chooseClass_some h
  simp only [isContender, Bool.and_eq_true, Bool.not_eq_true', List.isEmpty_eq_false_iff, List.any_eq_true] at hc
  obtain ⟨⟨⟨-, hq⟩, -⟩, d, -, hd⟩ := hc
  obtain ⟨r, rest, hr⟩ := List.exists_cons_of_ne_nil hq
  have hne : considered s k r ≠ [] := by
    by_cases hf : ∃ e, isCandidate s k e = true ∧ (s.rcd r).tried.getLsbD e.val = false
    · obtain ⟨e, he, ht⟩ := hf
      exact List.ne_nil_of_mem (mem_considered.mpr ⟨he, fun _ => ht⟩)
    · exact List.ne_nil_of_mem (mem_considered.mpr ⟨hd, fun x => absurd x hf⟩)
  obtain ⟨c, hcons⟩ : ∃ c, chooseConsumer s k r = some c := by
    unfold chooseConsumer
    split
    · exact ⟨_, List.head?_eq_some_head hne⟩
    · have hnd : s.grantOrder.Nodup := hg.nodup_iff.mpr (by decide)
      refine (leastLoaded_some s _ (hnd.filter _)).1 (fun e => hne ?_)
      rw [List.eq_nil_iff_forall_not_mem]
      intro x hx
      have hm : x ∈ s.grantOrder.filter fun y => (considered s k r).contains y :=
        List.mem_filter.mpr ⟨hg.mem_iff.mpr (mem_allConsumers x), by simpa using hx⟩
      rw [e] at hm
      exact List.not_mem_nil hm
  refine ⟨k, c, r, rest, ?_⟩
  simp only [decision, hk, hr, hcons]

theorem exec_grant {s : State} {k : ClassIdx} {c : ConsumerIdx} {r : RecIdx} {rest : List RecIdx}
    (hr : s.restart = none) (h : decision s = some (k, c, r, rest)) :
    exec .grant s = .next (grantRecord k c r rest s) := by
  show execGrant s = _
  unfold execGrant
  rw [hr, h]

/-- Clearing the pointer to a record is what R63 says. -/
theorem clearPointer_cleared (r : RecIdx) (s : State) : PointerCleared r s (clearPointer r s) := by
  intro b
  unfold clearPointer
  rw [State.modLevel_level]
  by_cases hb : b = (s.rcd r).addr <;> simp [hb]

/-- Settles O27: the grant that the Dispatcher decides, in full. -/
theorem grantTakesHeadOfContender : Obligations.GrantTakesHeadOfContender := by
  intro s hg hr h
  obtain ⟨k, c, r, rest, hd⟩ := decision_of_contender hg h
  obtain ⟨hk, hc, hq⟩ := decision_some hd
  refine ⟨k, c, r, rest, grantRecord k c r rest s, exec_grant hr hd, hk, hc, hq, ?_, fun q h => ?_, ?_, ?_, fun j h => ?_,
    ?_, fun j h => ?_, ?_, fun e h => ?_, ?_, fun p => ?_⟩
  · rw [grantRecord_eq]
  · rw [grantRecord_rcd, if_neg h]
  · rw [grantRecord_rcd, if_pos rfl]
    rfl
  · intro b
    rw [← clearPointer_cleared r s b, grantRecord_eq]
    rfl
  · rw [grantRecord_queue, if_neg h]
  · rw [grantRecord_queue, if_pos rfl]
  · rw [grantRecord_cls, if_neg h]
  · rw [grantRecord_cls, if_pos rfl]
  · rw [grantRecord_port, if_neg h]
  · rw [grantRecord_port, if_pos rfl]
    rfl
  · rw [grantRecord_eq]
    exact Tab.nth_put _ _ _ _

end Sys2Proof.Machine
end

section
/-! # What each page of each table carries -/

namespace Sys2Proof.Machine

/-! ## Octets that hold numbers and sets -/

theorem octet_toNat {n : Nat} (h : n < 256) : (octet n).toNat = n := Nat.mod_eq_of_lt h

theorem half_toNat {n : Nat} (h : n < 65536) : (half n).toNat = n := Nat.mod_eq_of_lt h

/-- Widening to an octet keeps the number. -/
theorem setWidth_toNat {w : Nat} (m : BitVec w) (h : w ≤ 8) : (m.setWidth 8).toNat = m.toNat := by
  have hm : m.toNat < 2 ^ 8 := lt_of_lt_of_le m.isLt (Nat.pow_le_pow_right (by decide) h)
  rw [BitVec.toNat_setWidth, Nat.mod_eq_of_lt hm]

theorem setOctet_toNat {w : Nat} (m : BitVec w) (h : w ≤ 8) : (setOctet m).toNat = m.toNat := setWidth_toNat m h

theorem levelIndex_lt (a : Addr) : a.link.val * 1024 + a.module.val * 64 + a.channel.val < 65536 := by omega

/-- The settings octet, bit by bit (section 11.9). -/
theorem settingsOctet_toNat (g : ClassConfig) : (settingsOctet g).toNat =
    (if g.mode = .primary then 1 else 0) + (if g.order = .serial then 2 else 0) + (if g.coalesce then 4 else 0) +
      (if g.policy = .displace then 8 else 0) := by
  unfold settingsOctet
  cases g.mode <;> cases g.order <;> cases g.coalesce <;> cases g.policy <;> rfl

theorem steerPage_carries (e : SteerEntry) : CarriesEntry (steerPage e) e := by
  refine ⟨?_, setOctet_toNat _ (by decide), octet_toNat (by omega), octet_toNat (by omega), octet_toNat (by omega),
    octet_toNat (by omega), setOctet_toNat _ (by decide), octet_toNat (by omega)⟩
  cases h : e.valid <;> simp [steerPage, flagOctet, h]

theorem classPage_carries (g : ClassConfig) : CarriesConfig (classPage g) g :=
  ⟨setOctet_toNat _ (by decide), settingsOctet_toNat g, octet_toNat (by omega), octet_toNat (by omega),
    octet_toNat (by omega), octet_toNat (by omega), by
      show (be16 (hiOctet (half g.pendingLimit.val)) (loOctet (half g.pendingLimit.val))).toNat = _
      rw [be16_octets]
      exact half_toNat (by omega)⟩

/-! ## The pages of each table -/

section

variable (s : State)

theorem readPage_device : readPage s .device 0 0 = some (devicePage s.device) := rfl

theorem readPage_steeringA (i : Fin 64) : readPage s (.steering .a) i.val 0 = some (steerPage (Tab.nth s.bankA i)) :=
  dif_pos i.isLt

theorem readPage_steeringB (i : Fin 64) : readPage s (.steering .b) i.val 0 = some (steerPage (Tab.nth s.bankB i)) :=
  dif_pos i.isLt

theorem readPage_classConfig (k : ClassIdx) : readPage s .classConfig k.val 0 = some (classPage (s.cls k).config) :=
  dif_pos k.isLt

theorem readPage_consumerConfig (c : ConsumerIdx) :
    readPage s .consumerConfig c.val 0 = some (consumerPage (s.port c)) :=
  dif_pos c.isLt

theorem readPage_store (r : RecIdx) (page : Nat) : readPage s .store r.val page = storePage (s.rcd r) page :=
  dif_pos r.isLt

theorem readPage_level (i : Fin 4096) (page : Nat) :
    readPage s .level i.val page = levelPage (Tab.nth s.levels i) page :=
  dif_pos i.isLt

theorem readPage_classCounts (k : ClassIdx) (page : Nat) :
    readPage s .classCounts k.val page = classCountsPage (s.cls k) page :=
  dif_pos k.isLt

theorem readPage_consumerCounts (c : ConsumerIdx) (page : Nat) :
    readPage s .consumerCounts c.val page = consumerCountsPage (s.port c) page :=
  dif_pos c.isLt

theorem readPage_linkCounts (i : Fin 10) (page : Nat) :
    readPage s .linkCounts i.val page = linkCountsPage (Tab.nth s.links i) page :=
  dif_pos i.isLt

end

theorem devicePage_carries (d : Device) :
    (devicePage d).o0.toNat = d.leasePeriod.val ∧ (devicePage d).o1.toNat = d.low.val ∧
      (be16 (devicePage d).o2 (devicePage d).o3).toNat = d.high.val := by
  refine ⟨octet_toNat (by omega), octet_toNat (by omega), ?_⟩
  show (be16 (hiOctet (half d.high.val)) (loOctet (half d.high.val))).toNat = _
  rw [be16_octets]
  exact half_toNat (by omega)

/-- The three pages of a STORE record (R22). -/
theorem storePage_carries (e : EventRecord) : ∃ p q w,
    storePage e 0 = some p ∧ storePage e 1 = some q ∧ storePage e 2 = some w ∧
    p.o0 = (match e.place with | .free => 0 | .pending _ => 1 | .queued _ _ => 2 | .awaiting _ _ _ => 3) ∧
    p.o1.toNat = e.generation.val ∧
    p.o2 = (match e.place.cls with | none => 255 | some k => BitVec.ofNat 8 k.val) ∧
    (be16 p.o3 p.o4).toNat = e.addr.link.val * 1024 + e.addr.module.val * 64 + e.addr.channel.val ∧
    p.o5 = (match e.kind with | .pulse => 1 | .level => 2 | .value => 3) ∧ be16 p.o6 p.o7 = e.datum ∧
    be32 q.o0 q.o1 q.o2 q.o3 = e.stamp ∧ q.o4.toNat = e.delivery.toNat ∧ q.o5.toNat = e.failed.toNat ∧
    q.o6 = e.superseded ∧ q.o7.toNat = e.tried.toNat ∧
    w.o0 = (if e.neverDispatched then 1 else 0) ∧
    w.o1 = (match e.place.cur with | none => 255 | some c => BitVec.ofNat 8 c.val) ∧
    (∀ k c d, e.place = .awaiting k c d → be16 w.o2 w.o3 = BitVec.ofNat 16 d) ∧
    ((∀ k c d, e.place ≠ .awaiting k c d) → be16 w.o2 w.o3 = 65535) ∧
    w.o4 = 0 ∧ w.o5 = 0 ∧ w.o6 = 0 ∧ w.o7 = 0 := by
  refine ⟨_, _, _, rfl, rfl, rfl, ?_, octet_toNat (by omega), ?_, ?_, ?_, be16_octets _, be32_octets _,
    setWidth_toNat _ (by decide), setWidth_toNat _ (by decide), rfl, setOctet_toNat _ (by decide), rfl, ?_, ?_, ?_, rfl,
    rfl, rfl, rfl⟩
  · cases e.place <;> rfl
  · cases e.place.cls <;> rfl
  · rw [be16_octets]
    exact half_toNat (levelIndex_lt e.addr)
  · cases e.kind <;> rfl
  · cases e.place.cur <;> rfl
  · intro k c d h
    rw [be16_octets, h]
    rfl
  · intro h
    rw [be16_octets]
    cases hp : e.place with
    | awaiting k c d => exact absurd hp (h k c d)
    | _ => rfl

/-- The page of a LEVEL record (R67). -/
theorem levelPage_carries (e : LevelEntry) : ∃ p, levelPage e 0 = some p ∧
    p.o0 = (match e.confirmed with | none => 2 | some v => BitVec.ofNat 8 v.val) ∧
    p.o1 = (match e.candidate with | none => 255 | some v => BitVec.ofNat 8 v.val) ∧
    p.o2.toNat = e.count.val ∧
    be16 p.o3 p.o4 = (match e.pendingRec with | none => 65535 | some r => BitVec.ofNat 16 r.val) ∧
    p.o5 = 0 ∧ p.o6 = 0 ∧ p.o7 = 0 := by
  refine ⟨_, rfl, ?_, ?_, octet_toNat (by omega), ?_, rfl, rfl, rfl⟩
  · cases e.confirmed <;> rfl
  · cases e.candidate <;> rfl
  · rw [be16_octets]
    cases e.pendingRec <;> rfl

/-- The two pages of a CLASS_COUNTS record (R81). -/
theorem classCountsPage_carries (x : ClassRecord) : ∃ p q,
    classCountsPage x 0 = some p ∧ classCountsPage x 1 = some q ∧
    p.o0 = (match x.state with | .disabled => 0 | .enabled => 1 | .draining => 2) ∧
    p.o1 = (if x.purge then 1 else 0) ∧ be16 p.o2 p.o3 = BitVec.ofNat 16 x.pendingCount ∧
    be16 p.o4 p.o5 = BitVec.ofNat 16 x.dispatchedCount ∧ be16 p.o6 p.o7 = x.accepted ∧
    be16 q.o0 q.o1 = x.refused ∧ be16 q.o2 q.o3 = x.coalesced ∧ be16 q.o4 q.o5 = x.completed ∧
    be16 q.o6 q.o7 = x.abandoned := by
  refine ⟨_, _, rfl, rfl, ?_, rfl, be16_octets _, be16_octets _, be16_octets _, be16_octets _, be16_octets _,
    be16_octets _, be16_octets _⟩
  cases x.state <;> rfl

/-- The three pages of a CONSUMER_COUNTS record (R101). -/
theorem consumerCountsPage_carries (x : Port) : ∃ p q w,
    consumerCountsPage x 0 = some p ∧ consumerCountsPage x 1 = some q ∧ consumerCountsPage x 2 = some w ∧
    p.o0 = (match x.state with | .off => 0 | .detached => 1 | .waiting => 2 | .active => 3 | .suspect => 4) ∧
    p.o1.toNat = x.load.val ∧ p.o2.toNat = x.consecutive.toNat ∧ p.o3 = BitVec.ofNat 8 x.dispatched ∧
    p.o4 = BitVec.ofNat 8 x.tx.length ∧ p.o5 = BitVec.ofNat 8 x.waitingAck.length ∧
    be16 p.o6 p.o7 = x.deliversSent ∧ be16 q.o0 q.o1 = x.acksTaken ∧ be16 q.o2 q.o3 = x.busyNacks ∧
    be16 q.o4 q.o5 = x.rejects ∧ be16 q.o6 q.o7 = x.expiries ∧ be16 w.o0 w.o1 = x.staleTags ∧
    be16 w.o2 w.o3 = x.overruns ∧ be16 w.o4 w.o5 = x.replays ∧ w.o6 = 0 ∧ w.o7 = 0 := by
  refine ⟨_, _, _, rfl, rfl, rfl, ?_, octet_toNat (by omega), setWidth_toNat _ (by decide), rfl, rfl, rfl,
    be16_octets _, be16_octets _, be16_octets _, be16_octets _, be16_octets _, be16_octets _, be16_octets _,
    be16_octets _, rfl, rfl⟩
  cases x.state <;> rfl

theorem linkStateCode_eq (x : LinkState) : x.code = match x with | .down => 0 | .aligning => 1 | .up => 2 := by
  cases x <;> rfl

/-- The four pages of the STATUS record (R157). -/
theorem statusPage_carries (s : State) : ∃ p q w y,
    statusPage s 0 = some p ∧ statusPage s 1 = some q ∧ statusPage s 2 = some w ∧ statusPage s 3 = some y ∧
    be32 p.o0 p.o1 p.o2 p.o3 = s.timebase ∧ be16 p.o4 p.o5 = BitVec.ofNat 16 s.freeCount ∧
    p.o6 = (if s.activeBank = .a then 0 else 1) ∧
    p.o7 = (match s.lease with | none => 255 | some x => BitVec.ofNat 8 x.holder.val) ∧
    q.o0 = (if s.frozen then 1 else 0) ∧ q.o1 = (if s.hold = .asserted then 1 else 0) ∧
    be16 q.o2 q.o3 = s.unmatched ∧
    be16 q.o4 q.o5 =
      (match s.lastUnmatched with
        | none => 65535
        | some a => BitVec.ofNat 16 (a.link.val * 1024 + a.module.val * 64 + a.channel.val)) ∧
    be16 q.o6 q.o7 = s.malformedTotal ∧
    (∀ (l : LinkId) (o : Byte),
      (l, o) ∈
        [(.source 0, w.o0), (.source 1, w.o1), (.source 2, w.o2), (.source 3, w.o3), (.consumer 0, w.o4),
          (.consumer 1, w.o5), (.consumer 2, w.o6), (.consumer 3, w.o7), (.consumer 4, y.o0), (.consumer 5, y.o1)] →
      o = (match (s.link l).state with | .down => 0 | .aligning => 1 | .up => 2)) ∧
    y.o2 = BitVec.ofNat 8 s.log.length ∧ y.o3 = s.overwrites ∧ be16 y.o4 y.o5 = s.restartCount ∧
    y.o6 = 0 ∧ y.o7 = 0 := by
  refine ⟨_, _, _, _, rfl, rfl, rfl, rfl, be32_octets _, be16_octets _, ?_, ?_, rfl, ?_, be16_octets _, ?_,
    be16_octets _, fun l o h => ?_, rfl, rfl, be16_octets _, rfl, rfl⟩
  · cases s.activeBank <;> rfl
  · cases s.lease <;> rfl
  · cases s.hold <;> rfl
  · rw [be16_octets]
    cases s.lastUnmatched <;> rfl
  · rw [← linkStateCode_eq]
    simp only [List.mem_cons, Prod.mk.injEq, List.not_mem_nil, or_false] at h
    rcases h with ⟨rfl, rfl⟩ | ⟨rfl, rfl⟩ | ⟨rfl, rfl⟩ | ⟨rfl, rfl⟩ | ⟨rfl, rfl⟩ | ⟨rfl, rfl⟩ | ⟨rfl, rfl⟩ | ⟨rfl, rfl⟩ |
      ⟨rfl, rfl⟩ | ⟨rfl, rfl⟩ <;> rfl

/-- Settles O38, table by table. -/
theorem pagesCarryState : Obligations.PagesCarryState := by
  intro s
  obtain ⟨d0, d1, d2⟩ := devicePage_carries s.device
  refine ⟨⟨_, readPage_device s, d0, d1, d2, rfl, rfl, rfl, rfl⟩,
    fun i => ⟨⟨_, readPage_steeringA s i, steerPage_carries _⟩, _, readPage_steeringB s i, steerPage_carries _⟩,
    fun k => ⟨_, readPage_classConfig s k, classPage_carries _⟩,
    fun c => ⟨_, readPage_consumerConfig s c, octet_toNat (by omega), octet_toNat (by omega), rfl, rfl, rfl, rfl, rfl,
      rfl⟩, ?_, ?_, ?_, ?_, fun i => ⟨_, readPage_linkCounts s i 0, be16_octets _, be16_octets _, be16_octets _, rfl, rfl⟩,
    statusPage_carries s⟩
  · rintro r e rfl
    simp only [readPage_store]
    exact storePage_carries (s.rcd r)
  · intro i
    simp only [readPage_level]
    exact levelPage_carries _
  · rintro k x rfl
    simp only [readPage_classCounts]
    exact classCountsPage_carries (s.cls k)
  · rintro c x rfl
    simp only [readPage_consumerCounts]
    exact consumerCountsPage_carries (s.port c)

end Sys2Proof.Machine
end

section
/-! # EVENT: allocation and displacement -/

namespace Sys2Proof.Machine

/-! ## Reading the state after the Notice Unit's test -/

section

variable (u : State)

theorem placeNotice_link (l : LinkId) : (placeNotice u).link l = u.link l := by rw [placeNotice_frame]; rfl

theorem placeNotice_rcd (r : RecIdx) : (placeNotice u).rcd r = u.rcd r := by rw [placeNotice_frame]; rfl

theorem placeNotice_queue (k : ClassIdx) : (placeNotice u).queue k = u.queue k := by rw [placeNotice_frame]; rfl

theorem placeNotice_cls (k : ClassIdx) : (placeNotice u).cls k = u.cls k := by rw [placeNotice_frame]; rfl

theorem placeNotice_level (b : Addr) : (placeNotice u).level b = u.level b := by rw [placeNotice_frame]; rfl

/-- The log after the Notice Unit's test is the log before it. -/
theorem LogTakes.placeNotice {e : LogEntry} {s u : State} (h : LogTakes e s u) : LogTakes e s (placeNotice u) := by
  rw [placeNotice_frame]
  exact h

end

/-- The log of `t` is that of `u`, a state with the log of `s`, with an entry written. -/
theorem LogTakes.of_written {e : LogEntry} {s u t : State} (hl : u.log = s.log) (ho : u.overwrites = s.overwrites)
    (hn : u.nextEntry = s.nextEntry) (h1 : t.log = (writeEntry e u).log)
    (h2 : t.overwrites = (writeEntry e u).overwrites) (h3 : t.nextEntry = u.nextEntry + 1) : LogTakes e s t := by
  obtain ⟨-, hroom, hfull⟩ := writeEntry_takes e u
  rw [hl, ho, ← h1, ← h2] at hroom hfull
  exact ⟨h3.trans (by rw [hn]), hroom, hfull⟩

/-! ## What an admission leaves, in full -/

/-- The levels after an admitted record has become its channel's pending record, if it does (R46). -/
def namedLevels (k : ClassIdx) (x : Arrival) (r : RecIdx) (s : State) : Tab LevelEntry 4096 :=
  if Named s x k then Tab.upd s.levels (levelIndex x.addr) fun e => { e with pendingRec := some r } else s.levels

theorem setPointer_eq (k : ClassIdx) (x : Arrival) (r : RecIdx) (s : State) :
    setPointer k x r s = { s with levels := namedLevels k x r s } := by
  unfold setPointer namedLevels
  split <;> rfl

theorem nth_namedLevels (k : ClassIdx) (x : Arrival) (r : RecIdx) (s : State) (b : Addr) :
    Tab.nth (namedLevels k x r s) (levelIndex b) =
      if b = x.addr ∧ Named s x k then { s.level b with pendingRec := some r } else s.level b := by
  unfold namedLevels
  by_cases hn : Named s x k
  · rw [if_pos hn, Tab.nth_upd]
    by_cases hb : b = x.addr
    · rw [if_pos (levelIndex_inj.mpr hb), if_pos ⟨hb, hn⟩]
      rfl
    · rw [if_neg (fun e => hb (levelIndex_inj.mp e)), if_neg (fun e => hb e.1)]
      rfl
  · simp only [hn, and_false, if_false]
    rfl

theorem setPointer_level (k : ClassIdx) (x : Arrival) (r : RecIdx) (s : State) (b : Addr) :
    (setPointer k x r s).level b =
      if b = x.addr ∧ Named s x k then { s.level b with pendingRec := some r } else s.level b := by
  rw [setPointer_eq]
  exact nth_namedLevels k x r s b

/-- An allocation, in full (R7, R46, R49, R51). -/
theorem allocate_fields (k : ClassIdx) (x : Arrival) (r : RecIdx) (rest : List RecIdx) (s : State) :
    allocate k x r rest s =
      { s with
        levels := namedLevels k x r (storeHead k x r rest s)
        records := (storeHead k x r rest s).records
        freeList := rest
        queues := (storeHead k x r rest s).queues
        classes := (storeHead k x r rest s).classes
        hold := holdNext s rest.length
        notices := { s.notices with hold := s.notices.hold || holdRaises s rest.length } } := by
  have hh := applyHold_hold s (storeHead k x r rest s) rfl rfl rfl
  have hn := applyHold_notices s (storeHead k x r rest s) rfl rfl
  rw [allocate_eq, setPointer_eq, applyHold_frame, hh, hn]
  rfl

/-- The state in which a cell meets the store tests: its link has heard it and its channel's entry is as Level Confirmation
has left it. -/
def atStoreTests (x : Arrival) (k : ClassIdx) (s : State) : State :=
  { (s.modLink (.source x.addr.link) Link.heard).modLevel x.addr (fun _ => levelAfter s x k) with late := s.late.tail }

section

variable {x : Arrival} {k : ClassIdx} {s : State}

theorem atStoreTests_level (b : Addr) :
    (atStoreTests x k s).level b = if b = x.addr then levelAfter s x k else s.level b := by
  show ((s.modLink (.source x.addr.link) Link.heard).modLevel x.addr fun _ => levelAfter s x k).level b = _
  rw [State.modLevel_level]
  rfl

theorem atStoreTests_goodCell : GoodCell (.source x.addr.link) s (atStoreTests x k s) :=
  ⟨State.modLink_link_same s _ _, fun _ hm => State.modLink_link_ne s _ _ hm⟩

/-- The links are those of the state before, but for the cell heard, in every state that keeps them. -/
theorem GoodCell.of_links {l : LinkId} {s u t : State} (h : GoodCell l s u) (e : ∀ m, t.link m = u.link m) :
    GoodCell l s t :=
  ⟨(e l).trans h.1, fun m hm => (e m).trans (h.2 m hm)⟩

/-- Settles O17: the cell is allocated, and the Notice Unit tests. -/
theorem eventAllocatesHeadOfFreeList : Obligations.EventAllocatesHeadOfFreeList := by
  intro x k r rest s ho ht hf hr
  have hA : storeTests k x (atStoreTests x k s) = allocate k x r rest (atStoreTests x k s) := by
    unfold storeTests
    rw [show (atStoreTests x k s).freeList = r :: rest from hf]
    exact if_pos hr
  have hstamp : x.stamp = s.timebase := ho.stamped
  refine ⟨placeNotice (allocate k x r rest (atStoreTests x k s)), ?_, ?_, ?_, fun q hq => ?_, ?_, fun j hj => ?_, ?_,
    fun j hj => ?_, ?_, fun b hb => ?_, ?_, fun d => ?_, ?_⟩
  · rw [← hA]
    exact exec_toStore ho ht
  · have h := placeNotice_frame (allocate k x r rest (atStoreTests x k s))
    generalize placeNotice (allocate k x r rest (atStoreTests x k s)) = t at h ⊢
    rw [h, allocate_fields]
    rfl
  · refine atStoreTests_goodCell.of_links (u := atStoreTests x k s) fun m => ?_
    rw [placeNotice_link, allocate_fields]
    rfl
  · rw [placeNotice_rcd, allocate_fields]
    exact (storeHead_rcd q).trans (if_neg hq)
  · rw [placeNotice_rcd, allocate_fields]
    refine (storeHead_rcd r).trans ((if_pos rfl).trans ?_)
    unfold fillRecord
    rw [hstamp]
    rfl
  · rw [placeNotice_queue, allocate_fields]
    exact (storeHead_queue j).trans (if_neg hj)
  · rw [placeNotice_queue, allocate_fields]
    exact (storeHead_queue k).trans (if_pos rfl)
  · rw [placeNotice_cls, allocate_fields]
    exact (storeHead_cls j).trans (if_neg hj)
  · rw [placeNotice_cls, allocate_fields]
    exact (storeHead_cls k).trans (if_pos rfl)
  · rw [placeNotice_level, allocate_fields]
    refine (nth_namedLevels _ _ _ _ _).trans ?_
    rw [if_neg (fun h => hb h.1)]
    exact (atStoreTests_level b).trans (if_neg hb)
  · have hn : Named (storeHead k x r rest (atStoreTests x k s)) x k ↔ Named s x k := by
      unfold Named
      rw [storeHead_cls, if_pos rfl]
      rfl
    have hl : (storeHead k x r rest (atStoreTests x k s)).level x.addr = levelAfter s x k :=
      (atStoreTests_level x.addr).trans (if_pos rfl)
    rw [placeNotice_level, allocate_fields]
    refine (nth_namedLevels _ _ _ _ _).trans ?_
    rw [hl]
    by_cases h : Named s x k
    · rw [if_pos ⟨rfl, hn.mpr h⟩, if_pos h]
    · rw [if_neg (fun e => h (hn.mp e.2)), if_neg h]
  · rw [placeNotice_port, allocate_fields]
    rfl
  · have h := placeNotice_test s (allocate k x r rest (atStoreTests x k s)) (by rw [allocate_fields]; rfl)
      fun c => by rw [allocate_fields]; rfl
    rw [allocate_fields] at h ⊢
    exact h

/-! ## What a displacement leaves, in full -/

/-- What an abandonment does to the Level Image is what R63 says. -/
theorem recordAbandon_cleared (r : RecIdx) (k : ClassIdx) (why : Reason) (s : State) :
    PointerCleared r s (recordAbandon r k why s) := by
  rw [recordAbandon_eq]
  exact clearPointer_cleared r s

/-- A displacement, in full (R9, R15, R45). -/
theorem displace_fields (k : ClassIdx) (x : Arrival) (r : RecIdx) (rest : List RecIdx) (s : State) :
    displace k x r rest s =
      { s with
        levels := namedLevels k x r (refillHead k x r rest (recordAbandon r k .displaced s))
        records := (refillHead k x r rest s).records
        queues := (refillHead k x r rest s).queues
        classes := Tab.upd s.classes k fun c =>
          { c with abandoned := satUp c.abandoned, accepted := satUp c.accepted }
        log := (writeEntry (logEntryOf s r k .displaced) s).log
        overwrites := (writeEntry (logEntryOf s r k .displaced) s).overwrites
        nextEntry := s.nextEntry + 1
        notices := { s.notices with abandon := true } } := by
  have hc : (refillHead k x r rest (recordAbandon r k .displaced s)).classes =
      Tab.upd s.classes k fun c => { c with abandoned := satUp c.abandoned, accepted := satUp c.accepted } := by
    rw [recordAbandon_eq]
    exact Tab.upd_upd_same s.classes k (fun c => { c with abandoned := satUp c.abandoned })
      fun c => { c with accepted := satUp c.accepted }
  rw [displace_eq, setPointer_eq, ← hc, recordAbandon_eq]
  rfl

theorem refillHead_level (k : ClassIdx) (x : Arrival) (r : RecIdx) (rest : List RecIdx) (s : State) (b : Addr) :
    (refillHead k x r rest s).level b = s.level b := rfl

theorem displace_level (k : ClassIdx) (x : Arrival) (r : RecIdx) (rest : List RecIdx) (s : State) (b : Addr) :
    (displace k x r rest s).level b =
      if b = x.addr ∧ Named s x k then { (recordAbandon r k .displaced s).level b with pendingRec := some r }
      else (recordAbandon r k .displaced s).level b := by
  have hn : Named (refillHead k x r rest (recordAbandon r k .displaced s)) x k ↔ Named s x k := by
    unfold Named
    rw [refillHead_cls, if_pos rfl, (SameStore.recordAbandon (y := none) s r k .displaced).rule k |>.config]
  rw [displace_eq, setPointer_level, refillHead_level]
  simp only [hn]

/-- A cell of a class with the DISPLACE policy that has no room for it (R45). -/
structure NoRoom (s : State) (x : Arrival) (k : ClassIdx) : Prop where
  offered : Offered s x k
  toStore : ToStore s x k
  policy : (s.cls k).config.policy = .displace
  full : ¬ s.holding k < (s.cls k).config.pendingLimit.val ∨ s.freeList = []

theorem NoRoom.exec (h : NoRoom s x k) : exec x.command s =
    .next (placeNotice (match s.queue k with
      | [] => refuse k (atStoreTests x k s)
      | r :: rest => displace k x r rest (atStoreTests x k s))) := by
  rw [exec_toStore h.offered h.toStore]
  exact congrArg (fun u => Host.Outcome.next (placeNotice u))
    (storeTests_displace (A := atStoreTests x k s) h.policy h.full)

/-- With an empty class queue the cell is refused (R45). -/
theorem NoRoom.refused (h : NoRoom s x k) (hn : NoticesPlaced s) (hq : s.queue k = []) :
    ∃ t, Machine.exec x.command s = .next t ∧
      t = { s with links := t.links, levels := t.levels, classes := t.classes, late := s.late.tail } ∧
      GoodCell (.source x.addr.link) s t ∧ OnlyClass k s t ∧
      t.cls k = { s.cls k with refused := satUp (s.cls k).refused } ∧
      (∀ b, b ≠ x.addr → t.level b = s.level b) ∧ t.level x.addr = levelAfter s x k := by
  have hp : placeNotice (refuse k (atStoreTests x k s)) = refuse k (atStoreTests x k s) :=
    placeNotice_quiet hn rfl rfl fun _ => rfl
  refine ⟨refuse k (atStoreTests x k s), ?_, rfl, atStoreTests_goodCell (k := k) |>.of_links fun _ => rfl,
    fun j hj => State.modClass_cls_ne _ _ _ hj, State.modClass_cls_same _ _ _, fun b hb => ?_, ?_⟩
  · rw [h.exec, hq]
    exact congrArg _ hp
  · exact (atStoreTests_level b).trans (if_neg hb)
  · exact (atStoreTests_level x.addr).trans (if_pos rfl)

/-- Settles O19: the head of the class queue is displaced, and with none the cell is refused. -/
theorem displacePolicyDisplaces : Obligations.DisplacePolicyDisplaces := by
  intro x k s hn ho ht hpol hfull
  have h : NoRoom s x k := ⟨ho, ht, hpol, hfull⟩
  refine ⟨h.refused hn, fun r rest hq => ?_⟩
  have hstamp : x.stamp = s.timebase := ho.stamped
  have hlevel : ∀ b, (recordAbandon r k .displaced (atStoreTests x k s)).level b =
      if b = (s.rcd r).addr ∧ ((atStoreTests x k s).level b).pendingRec = some r
      then { (atStoreTests x k s).level b with pendingRec := none } else (atStoreTests x k s).level b :=
    recordAbandon_cleared r k .displaced (atStoreTests x k s)
  have hx : (atStoreTests x k s).level x.addr = levelAfter s x k := (atStoreTests_level x.addr).trans (if_pos rfl)
  have hown : (displace k x r rest (atStoreTests x k s)).level x.addr =
      if Named s x k then { (recordAbandon r k .displaced (atStoreTests x k s)).level x.addr with pendingRec := some r }
      else (recordAbandon r k .displaced (atStoreTests x k s)).level x.addr := by
    rw [displace_level]
    by_cases hN : Named s x k
    · exact (if_pos ⟨rfl, hN⟩).trans (if_pos hN).symm
    · exact (if_neg fun e => hN e.2).trans (if_neg hN).symm
  refine ⟨placeNotice (displace k x r rest (atStoreTests x k s)), ?_, ?_, ?_, fun q hqr => ?_, ?_, fun j hj => ?_, ?_,
    fun j hj => ?_, ?_, ?_, fun b hb => ?_, fun hN => ?_, fun hN => ?_, ?_, fun d => ?_, ?_⟩
  · rw [h.exec, hq]
  · have hf := placeNotice_frame (displace k x r rest (atStoreTests x k s))
    generalize placeNotice (displace k x r rest (atStoreTests x k s)) = t at hf ⊢
    rw [hf, displace_fields]
    rfl
  · refine atStoreTests_goodCell.of_links (u := atStoreTests x k s) fun m => ?_
    rw [placeNotice_link, displace_fields]
    rfl
  · rw [placeNotice_rcd, displace_fields]
    exact (refillHead_rcd (rest := rest) q).trans (if_neg hqr)
  · rw [placeNotice_rcd, displace_fields]
    refine (refillHead_rcd (rest := rest) r).trans ((if_pos rfl).trans ?_)
    unfold fillRecord
    rw [hstamp]
    rfl
  · rw [placeNotice_queue, displace_fields]
    exact (refillHead_queue (rest := rest) j).trans (if_neg hj)
  · rw [placeNotice_queue, displace_fields]
    exact (refillHead_queue (rest := rest) k).trans (if_pos rfl)
  · rw [placeNotice_cls, displace_fields]
    exact Tab.nth_upd_ne _ _ hj
  · rw [placeNotice_cls, displace_fields]
    exact Tab.nth_upd_same _ _ _
  · apply LogTakes.placeNotice
    rw [displace_fields]
    exact LogTakes.of_written (u := atStoreTests x k s) (e := logEntryOf (atStoreTests x k s) r k .displaced)
      rfl rfl rfl rfl rfl rfl
  · rw [placeNotice_level, displace_level, if_neg (fun e => hb e.1), hlevel,
      (atStoreTests_level b).trans (if_neg hb)]
  · rw [placeNotice_level, hown, if_pos hN]
  · rw [placeNotice_level, hown, if_neg hN, hlevel, hx]
    split <;> rfl
  · rw [placeNotice_level, hown, hlevel, hx]
    split <;> split <;> rfl
  · rw [placeNotice_port, displace_fields]
    rfl
  · have hT := placeNotice_test s (displace k x r rest (atStoreTests x k s)) (by rw [displace_fields]; rfl)
      fun c => by rw [displace_fields]; rfl
    rw [displace_fields] at hT ⊢
    exact hT

end

end Sys2Proof.Machine
end

section
/-! # Failures at a consumer: a charged return, or the end of the record -/

namespace Sys2Proof.Machine

/-! ## A record leaves its consumer, in full -/

/-- A port once record `r` has left it. -/
def Port.dropped (r : RecIdx) (p : Port) : Port :=
  { p with tx := withoutDeliver r p.tx, waitingAck := without r p.waitingAck, dispatched := p.dispatched - 1 }

/-- A link once the DELIVER of record `r` is withdrawn. -/
def Link.withdrawn (r : RecIdx) (l : Link) : Link := { l with wire := l.wire.withdraw r }

/-- A class record once one of its dispatched records has been abandoned. -/
def ClassRecord.lost (x : ClassRecord) : ClassRecord :=
  { x with dispatchedCount := x.dispatchedCount - 1, abandoned := satUp x.abandoned }

/-- A Level Image entry that no longer names record `r`. -/
def LevelEntry.unnamed (r : RecIdx) (e : LevelEntry) : LevelEntry :=
  if e.pendingRec = some r then { e with pendingRec := none } else e

/-- The log after an entry depends on the log before it alone. -/
theorem writeEntry_congr (e : LogEntry) {s u : State} (hl : u.log = s.log) (ho : u.overwrites = s.overwrites) :
    (writeEntry e u).log = (writeEntry e s).log ∧ (writeEntry e u).overwrites = (writeEntry e s).overwrites := by
  unfold writeEntry
  rw [hl, ho]
  split
  · exact ⟨rfl, rfl⟩
  · exact ⟨rfl, rfl⟩

/-- Abandoning a dispatched record, in full (R15, R76, R49). -/
theorem abandon_fields {s : State} {r : RecIdx} {k : ClassIdx} {c : ConsumerIdx} (h : DispatchedTo s r k c)
    (why : Reason) : abandon r why s =
      { s with
        links := Tab.upd s.links (linkIndex (.consumer c)) (Link.withdrawn r)
        levels := Tab.upd s.levels (levelIndex (s.rcd r).addr) (LevelEntry.unnamed r)
        records := Tab.upd s.records r EventRecord.freed
        freeList := s.freeList ++ [r]
        classes := Tab.upd s.classes k fun x => x.lost.drained
        ports := Tab.upd s.ports c (Port.dropped r)
        hold := holdNext s (s.freeCount + 1)
        notices :=
          { abandon := true, suspects := s.notices.suspects
            idle := if (s.cls k).lost.drainEnds then addTo s.notices.idle k.val else s.notices.idle
            hold := s.notices.hold || holdRaises s (s.freeCount + 1) }
        log := (writeEntry (logEntryOf s r k why) s).log
        overwrites := (writeEntry (logEntryOf s r k why) s).overwrites
        nextEntry := s.nextEntry + 1 } := by
  have hd : DispatchedTo (recordAbandon r k why s) r k c := by
    rw [recordAbandon_eq]
    exact h
  have hc : (recordAbandon r k why s).cls k = { s.cls k with abandoned := satUp (s.cls k).abandoned } := by
    rw [recordAbandon_eq]
    exact Tab.nth_upd_same _ _ _
  rw [abandon_dispatched why h, freeRecord_dispatched hd, hc, recordAbandon_eq]
  dsimp only
  rw [Tab.upd_upd_same]
  rfl

/-! ## The charge -/

/-- The record once a failed attempt at consumer `c` has been charged. -/
def EventRecord.charged (c : ConsumerIdx) (e : EventRecord) : EventRecord :=
  { e with failed := satUp e.failed, tried := addTo e.tried c.val }

/-- The state in which a charged failure is decided: the consumer's counters changed by `f`. -/
def chargedState (c : ConsumerIdx) (r : RecIdx) (f : Port → Port) (s : State) : State :=
  chargeFailure c r (s.modPort c f)

theorem chargedState_eq (c : ConsumerIdx) (r : RecIdx) (f : Port → Port) (s : State) :
    chargedState c r f s =
      { s with ports := Tab.upd s.ports c f, records := Tab.upd s.records r (EventRecord.charged c) } := rfl

theorem chargedState_rcd (c : ConsumerIdx) (r : RecIdx) (f : Port → Port) (s : State) :
    (chargedState c r f s).rcd r = (s.rcd r).charged c := Tab.nth_upd_same _ _ _

theorem chargedState_dispatched {s : State} {r : RecIdx} {k : ClassIdx} {c : ConsumerIdx} (h : DispatchedTo s r k c)
    (f : Port → Port) : DispatchedTo (chargedState c r f s) r k c := by
  unfold DispatchedTo
  rw [chargedState_rcd]
  exact h

theorem addTo_addTo {w : Nat} (m : BitVec w) (n : Nat) : addTo (addTo m n) n = addTo m n := by
  unfold addTo
  rw [BitVec.or_assoc, BitVec.or_self]

/-- A saturating counter, as a number. -/
theorem satUp_toNat {w : Nat} (c : BitVec w) : (satUp c).toNat = min (2 ^ w - 1) (c.toNat + 1) := by
  have hlt := c.isLt
  unfold satUp
  by_cases h : c = BitVec.allOnes w
  · rw [if_pos h, h, BitVec.toNat_allOnes]
    omega
  · have hne : c.toNat ≠ 2 ^ w - 1 := fun e => h (BitVec.eq_of_toNat_eq (by rw [BitVec.toNat_allOnes, e]))
    have hone : (1 : BitVec w).toNat = 1 := (BitVec.toNat_ofNat 1 w).trans (Nat.mod_eq_of_lt (by omega))
    rw [if_neg h, BitVec.toNat_add, hone, Nat.mod_eq_of_lt (by omega)]
    omega

theorem satUp_of_lt {w : Nat} {c : BitVec w} (h : c.toNat + 1 < 2 ^ w) : satUp c = c + 1 :=
  if_neg fun e => by
    have : c.toNat = 2 ^ w - 1 := by rw [e, BitVec.toNat_allOnes]
    omega

/-! ## A charged return -/

/-- What a charged return leaves, with the consumer's link and port changed by `W` and `F` and the notice set `N`. -/
def chargedReturn (k : ClassIdx) (c : ConsumerIdx) (r : RecIdx) (W : Link → Link) (F : Port → Port) (N : NoticeSet)
    (s : State) : State :=
  { s with
    links := Tab.upd s.links (linkIndex (.consumer c)) W
    records := Tab.upd s.records r fun e =>
      { e with place := .pending k, failed := satUp e.failed, tried := addTo e.tried c.val }
    queues := Tab.upd s.queues k (r :: ·)
    classes := Tab.upd s.classes k fun x =>
      { x with dispatchedCount := x.dispatchedCount - 1, pendingCount := x.pendingCount + 1 }
    ports := Tab.upd s.ports c F
    notices := N }

theorem failureDecision_return {s : State} {r : RecIdx} {k : ClassIdx} {c : ConsumerIdx} (h : DispatchedTo s r k c)
    (hz : s.purgeDraining k = false) (hf : (s.rcd r).failed.toNat + 1 < (s.cls k).config.attemptLimit.val)
    (f : Port → Port) :
    failureDecision k r (chargedState c r f s) =
      chargedReturn k c r (Link.withdrawn r) (fun p => (f p).dropped r) s.notices s := by
  have hsat : ((chargedState c r f s).rcd r).failed.toNat = (s.rcd r).failed.toNat + 1 := by
    rw [chargedState_rcd]
    refine (satUp_toNat _).trans ?_
    omega
  have hd : failureDecision k r (chargedState c r f s) = returnRecord r (chargedState c r f s) := by
    rcases failureDecision_cases k r (chargedState c r f s) with ⟨e, _⟩ | ⟨_, e, _⟩ | ⟨_, _, e⟩
    · exact absurd (e.symm.trans hz) (by simp)
    · have : (s.cls k).config.attemptLimit.val ≤ (s.rcd r).failed.toNat + 1 := hsat ▸ e
      omega
    · exact e
  rw [hd, returnRecord_dispatched (chargedState_dispatched h f), chargedState_eq]
  dsimp only
  rw [Tab.upd_upd_same, Tab.upd_upd_same]
  simp only [EventRecord.charged, addTo_addTo]
  rfl

/-! ## A record ends at its consumer -/

/-- What the end of a record at its consumer leaves, with the consumer's link and port changed by `W` and `F` and the notice
set `N`; the log entry carries `charged` failed attempts. -/
def endedRecord (k : ClassIdx) (c : ConsumerIdx) (r : RecIdx) (why : Reason) (charged : BitVec 3) (W : Link → Link)
    (F : Port → Port) (N : NoticeSet) (s : State) : State :=
  { s with
    links := Tab.upd s.links (linkIndex (.consumer c)) W
    levels := Tab.upd s.levels (levelIndex (s.rcd r).addr) (LevelEntry.unnamed r)
    records := Tab.upd s.records r EventRecord.freed
    freeList := s.freeList ++ [r]
    classes := Tab.upd s.classes k fun x => x.lost.drained
    ports := Tab.upd s.ports c F
    hold := holdNext s (s.freeCount + 1)
    notices := N
    log := (writeEntry { logEntryOf s r k why with failed := charged } s).log
    overwrites := (writeEntry { logEntryOf s r k why with failed := charged } s).overwrites
    nextEntry := s.nextEntry + 1 }

/-- The notice set after the end of a record of class `k`, with the suspects `suspects`. -/
def endedNotices (k : ClassIdx) (suspects : ConsumerSet) (s : State) : NoticeSet :=
  { abandon := true
    suspects := suspects
    idle := if (s.cls k).lost.drainEnds then addTo s.notices.idle k.val else s.notices.idle
    hold := s.notices.hold || holdRaises s (s.freeCount + 1) }

theorem abandon_ended {s : State} {r : RecIdx} {k : ClassIdx} {c : ConsumerIdx} (h : DispatchedTo s r k c)
    (why : Reason) (f : Port → Port) :
    abandon r why (s.modPort c f) =
      endedRecord k c r why (s.rcd r).failed (Link.withdrawn r) (fun p => (f p).dropped r)
        (endedNotices k s.notices.suspects s) s := by
  have hw := writeEntry_congr (logEntryOf s r k why) (s := s) (u := s.modPort c f) rfl rfl
  rw [abandon_fields (s := s.modPort c f) h]
  rw [show logEntryOf (s.modPort c f) r k why = logEntryOf s r k why from rfl, hw.1, hw.2]
  unfold endedRecord
  rw [show (s.modPort c f).ports = Tab.upd s.ports c f from rfl, Tab.upd_upd_same]
  rfl

theorem abandon_charged {s : State} {r : RecIdx} {k : ClassIdx} {c : ConsumerIdx} (h : DispatchedTo s r k c)
    (why : Reason) (f : Port → Port) :
    abandon r why (chargedState c r f s) =
      endedRecord k c r why (satUp (s.rcd r).failed) (Link.withdrawn r) (fun p => (f p).dropped r)
        (endedNotices k s.notices.suspects s) s := by
  have he : logEntryOf (chargedState c r f s) r k why =
      { logEntryOf s r k why with failed := satUp (s.rcd r).failed } := by
    unfold logEntryOf
    rw [chargedState_rcd]
    rfl
  have hw := writeEntry_congr { logEntryOf s r k why with failed := satUp (s.rcd r).failed } (s := s)
    (u := chargedState c r f s) rfl rfl
  rw [abandon_fields (chargedState_dispatched h f), he, hw.1, hw.2, chargedState_rcd, chargedState_eq]
  dsimp only
  rw [Tab.upd_upd_same, Tab.upd_upd_same]
  rfl

end Sys2Proof.Machine
end

section
/-! # The failures at a consumer: O23 and O24 -/

namespace Sys2Proof.Machine

/-! ## The SUSPECT test -/

/-- A port whose consumer becomes SUSPECT when `b` says so. -/
def Port.suspectIf (b : Bool) (p : Port) : Port := { p with state := if b then .suspect else p.state }

/-- The set of suspects, with consumer `c` when `b` says so. -/
def suspectsWith (b : Bool) (c : ConsumerIdx) (n : NoticeSet) : ConsumerSet :=
  if b then addTo n.suspects c.val else n.suspects

/-- One more expiry makes consumer `c` SUSPECT (R91). -/
def overdue (c : ConsumerIdx) (s : State) : Bool :=
  decide ((s.port c).state = .active ∧ (s.port c).threshold.val ≤ (satUp (s.port c).consecutive).toNat)

/-- The SUSPECT test, in full (R91). -/
theorem suspectCheck_fields {c : ConsumerIdx} {u : State} {b : Bool}
    (hb : b = decide ((u.port c).state = .active ∧ (u.port c).threshold.val ≤ (u.port c).consecutive.toNat)) :
    suspectCheck c u =
      { u with
        ports := Tab.upd u.ports c (Port.suspectIf b)
        notices := { u.notices with suspects := suspectsWith b c u.notices } } := by
  unfold suspectCheck
  by_cases h : (u.port c).state = .active ∧ (u.port c).threshold.val ≤ (u.port c).consecutive.toNat
  · rw [if_pos h, hb, decide_eq_true h]
    rfl
  · rw [if_neg h, hb, decide_eq_false h, Tab.upd_eq_self _ _ _ rfl]
    rfl

theorem placeNotice_port_of {u : State} {d : ConsumerIdx} {p : Port} (h : u.port d = p) :
    (placeNotice u).port d = { p with noticeSlot := ((placeNotice u).port d).noticeSlot } := by
  rw [← h]
  exact placeNotice_port u d

/-! ## The three failures -/

/-- The port's own part of a busy NACK (R123). -/
def Port.busied (p : Port) : Port := { p with busyNacks := satUp p.busyNacks, consecutive := 0 }

/-- The port's own part of an expiry (R126). -/
def Port.lapsed (p : Port) : Port := { p with expiries := satUp p.expiries, consecutive := satUp p.consecutive }

/-- The port's own part of a rejecting NACK (R124). -/
def Port.rejected (p : Port) : Port := { p with rejects := satUp p.rejects, consecutive := 0 }

/-- A command that charges consumer `c` with a failure of its record `r`: what it does to the link, to the port's own
counters, and whether the consumer becomes SUSPECT. -/
inductive Charges (c : Fin 6) (r : RecIdx) (k : ClassIdx) (s : State) :
    Instr → (Link → Link) → (Port → Port) → Bool → Prop
  | busy (hp : Passing s (.consumer c)) (hd : DispatchedTo s r k c) :
    Charges c r k s (.nackBusy c ⟨r, (s.rcd r).generation⟩) Link.heard Port.busied false
  | lapse (hd : (s.rcd r).place = .awaiting k c 0) : Charges c r k s (.expiry r) id Port.lapsed (overdue c s)

section

variable {c : Fin 6} {r : RecIdx} {k : ClassIdx} {s : State}

/-- A NACK with the present generation of a record dispatched to its sender is accepted (R16). -/
theorem acceptedClass_of_dispatched (hd : DispatchedTo s r k c) :
    acceptedClass (s.modLink (.consumer c) Link.heard) c ⟨r, (s.rcd r).generation⟩ = some k :=
  acceptedClass_some_iff.mpr ⟨hd, rfl⟩

theorem exec_nackBusy_accepted (hp : Passing s (.consumer c)) (hd : DispatchedTo s r k c) :
    exec (.nackBusy c ⟨r, (s.rcd r).generation⟩) s =
      .next (placeNotice (failureDecision k r (chargedState c r Port.busied (s.modLink (.consumer c) Link.heard)))) := by
  show execNackBusy c _ s = _
  have hk : ∀ K : State → State, passOn (.consumer c) K s = K (s.modLink (.consumer c) Link.heard) :=
    passOn_up hp.up hp.noRestart
  rw [execNackBusy, hk, acceptedClass_of_dispatched hd]
  rfl

theorem exec_nackReject_accepted (hp : Passing s (.consumer c)) (hd : DispatchedTo s r k c) :
    exec (.nackReject c ⟨r, (s.rcd r).generation⟩) s =
      .next (placeNotice (abandon r .rejected ((s.modLink (.consumer c) Link.heard).modPort c Port.rejected))) := by
  show execNackReject c _ s = _
  have hk : ∀ K : State → State, passOn (.consumer c) K s = K (s.modLink (.consumer c) Link.heard) :=
    passOn_up hp.up hp.noRestart
  rw [execNackReject, hk, acceptedClass_of_dispatched hd]
  rfl

theorem exec_expiry_due (hd : (s.rcd r).place = .awaiting k c 0) :
    exec (.expiry r) s =
      .next (placeNotice (suspectCheck c (failureDecision k r (chargedState c r Port.lapsed s)))) := by
  show execExpiry r s = _
  rw [execExpiry, hd]
  rfl

/-! ## Charged returns -/

theorem chargedReturn_heard (F : Port → Port) (N : NoticeSet) (W H : Link → Link) :
    chargedReturn k c r W F N (s.modLink (.consumer c) H) = chargedReturn k c r (fun l => W (H l)) F N s := by
  unfold chargedReturn
  rw [State.modLink_links, Tab.upd_upd_same]
  rfl

theorem chargedReturn_suspect (F : Port → Port) (N : NoticeSet) (W : Link → Link) {b : Bool}
    (hb : b = decide ((F (s.port c)).state = .active ∧
      (F (s.port c)).threshold.val ≤ (F (s.port c)).consecutive.toNat)) :
    suspectCheck c (chargedReturn k c r W F N s) =
      chargedReturn k c r W (fun p => (F p).suspectIf b) { N with suspects := suspectsWith b c N } s := by
  have hp : (chargedReturn k c r W F N s).port c = F (s.port c) := Tab.nth_upd_same _ _ _
  rw [suspectCheck_fields (b := b) (by rw [hp]; exact hb)]
  unfold chargedReturn
  dsimp only
  rw [Tab.upd_upd_same]

/-- A charged failure below the attempt limit, in full. -/
theorem Charges.exec_return {i : Instr} {H : Link → Link} {f : Port → Port} {b : Bool} (h : Charges c r k s i H f b)
    (hz : s.purgeDraining k = false) (hf : (s.rcd r).failed.toNat + 1 < (s.cls k).config.attemptLimit.val) :
    exec i s = .next (placeNotice (chargedReturn k c r (fun l => (H l).withdrawn r)
      (fun p => ((f p).dropped r).suspectIf b) { s.notices with suspects := suspectsWith b c s.notices } s)) := by
  cases h with
  | busy hp hd =>
    rw [exec_nackBusy_accepted hp hd, failureDecision_return (s := s.modLink (.consumer c) Link.heard) hd hz hf,
      chargedReturn_heard]
    rfl
  | lapse hd =>
    rw [exec_expiry_due hd, failureDecision_return (Or.inr ⟨0, hd⟩) hz hf, chargedReturn_suspect _ _ _ rfl]
    rfl

/-- Settles O23, for both failures at once: `Charges` says where they differ. -/
theorem chargedFailureReturnsRecord : Obligations.ChargedFailureReturnsRecord := by
  intro c r k s hN hz hf i hi
  obtain ⟨H, f, b, hC⟩ : ∃ H f b, Charges c r k s i H f b := by
    rcases hi with ⟨rfl, hp, hd⟩ | ⟨rfl, hd⟩
    · exact ⟨_, _, _, .busy hp hd⟩
    · exact ⟨_, _, _, .lapse hd⟩
  have hsat : satUp (s.rcd r).failed = (s.rcd r).failed + 1 := satUp_of_lt (by omega)
  obtain ⟨u, hu⟩ : ∃ u, u = chargedReturn k c r (fun l => (H l).withdrawn r) (fun p => ((f p).dropped r).suspectIf b)
    { s.notices with suspects := suspectsWith b c s.notices } s := ⟨_, rfl⟩
  have hpc : u.port c = ((f (s.port c)).dropped r).suspectIf b := hu ▸ Tab.nth_upd_same _ _ _
  have hpd : ∀ d, d ≠ c → u.port d = s.port d := fun d hd => hu ▸ Tab.nth_upd_ne _ _ hd
  have hslot : ∀ d, (u.port d).noticeSlot = (s.port d).noticeSlot := fun d => by
    by_cases hd : d = c
    · rw [hd, hpc]
      cases hC <;> rfl
    · rw [hpd d hd]
  have hport := placeNotice_port_of hpc
  have hlink : (placeNotice u).link (.consumer c) = (H (s.link (.consumer c))).withdrawn r := by
    rw [placeNotice_link, hu]
    exact Tab.nth_upd_same _ _ _
  refine ⟨placeNotice u, hu ▸ hC.exec_return hz hf, ?_, fun q hq => ?_, ?_, fun j hj => ?_, ?_, fun j hj => ?_, ?_,
    fun m hm => ?_, ?_, fun hi => ?_, fun hi => ?_, ?_, ?_, ?_, fun d hd => ?_, fun hi => ?_, fun hi => ?_⟩
  · have h := placeNotice_frame u
    generalize placeNotice u = t at h ⊢
    rw [h, hu]
    rfl
  · rw [placeNotice_rcd, hu]
    exact Tab.nth_upd_ne _ _ hq
  · rw [placeNotice_rcd, hu, ← hsat]
    exact Tab.nth_upd_same _ _ _
  · rw [placeNotice_queue, hu]
    exact Tab.nth_upd_ne _ _ hj
  · rw [placeNotice_queue, hu]
    exact Tab.nth_upd_same _ _ _
  · rw [placeNotice_cls, hu]
    exact Tab.nth_upd_ne _ _ hj
  · rw [placeNotice_cls, hu]
    exact Tab.nth_upd_same _ _ _
  · rw [placeNotice_link, hu]
    exact Tab.nth_upd_ne _ _ (linkIndex_inj.not.mpr hm)
  · rw [hlink]
    cases hC <;> rfl
  · rw [hlink]
    cases hC with
    | busy => exact nomatch hi
    | lapse => rfl
  · rw [hlink]
    cases hC with
    | busy => rfl
    | lapse => exact absurd rfl hi
  · rw [hport]
    cases hC <;> rfl
  · rw [hport]
    cases hC <;> rfl
  · rw [hport]
    cases hC <;> rfl
  · exact placeNotice_port_of (hpd d hd)
  · cases hC with
    | busy =>
      have hn : u.notices = s.notices := by rw [hu]; rfl
      rw [placeNotice_quiet hN hn (by rw [hu]; rfl) hslot]
      refine ⟨hn, hpd, ?_⟩
      rw [hpc]
      rfl
    | lapse => exact absurd rfl hi
  · cases hC with
    | busy => exact nomatch hi
    | lapse =>
      refine ⟨overdue c s, decide_eq_true_iff, ?_, ?_⟩
      · rw [hport]
        rfl
      · have h := placeNotice_test s u (by rw [hu]; rfl) hslot
        rw [show u.notices = { s.notices with suspects := suspectsWith (overdue c s) c s.notices } from by rw [hu]; rfl] at h
        exact h

/-! ## The end of a record at its consumer -/

/-- A command that ends record `r` at consumer `c`: the reason, and the failed attempts that the log entry carries. -/
inductive EndsAt (c : Fin 6) (r : RecIdx) (k : ClassIdx) (s : State) :
    Instr → (Link → Link) → (Port → Port) → Bool → Reason → BitVec 3 → Prop
  | purged {i H f b} (h : Charges c r k s i H f b) (hz : s.purgeDraining k = true) :
    EndsAt c r k s i H f b .purged (satUp (s.rcd r).failed)
  | exhausted {i H f b} (h : Charges c r k s i H f b) (hz : s.purgeDraining k = false)
    (hf : (s.cls k).config.attemptLimit.val ≤ (s.rcd r).failed.toNat + 1) :
    EndsAt c r k s i H f b .exhausted (satUp (s.rcd r).failed)
  | rejected (hp : Passing s (.consumer c)) (hd : DispatchedTo s r k c) :
    EndsAt c r k s (.nackReject c ⟨r, (s.rcd r).generation⟩) Link.heard Port.rejected false .rejected (s.rcd r).failed

theorem failureDecision_purges (f : Port → Port) (hz : s.purgeDraining k = true) :
    failureDecision k r (chargedState c r f s) = abandon r .purged (chargedState c r f s) := by
  rcases failureDecision_cases k r (chargedState c r f s) with ⟨-, e⟩ | ⟨e, -⟩ | ⟨e, -⟩
  · exact e
  · exact absurd (hz.symm.trans e) (by simp)
  · exact absurd (hz.symm.trans e) (by simp)

theorem failureDecision_exhausts (f : Port → Port) (hz : s.purgeDraining k = false)
    (hf : (s.cls k).config.attemptLimit.val ≤ (s.rcd r).failed.toNat + 1) :
    failureDecision k r (chargedState c r f s) = abandon r .exhausted (chargedState c r f s) := by
  rcases failureDecision_cases k r (chargedState c r f s) with ⟨e, -⟩ | ⟨-, -, e⟩ | ⟨-, e, -⟩
  · exact absurd (e.symm.trans hz) (by simp)
  · exact e
  · have hlim : (satUp (s.rcd r).failed).toNat < (s.cls k).config.attemptLimit.val := by
      have := chargedState_rcd c r f s ▸ e
      exact this
    have := satUp_toNat (s.rcd r).failed
    omega

theorem endedRecord_heard (why : Reason) (charged : BitVec 3) (F : Port → Port) (N : NoticeSet) (W H : Link → Link) :
    endedRecord k c r why charged W F N (s.modLink (.consumer c) H) =
      endedRecord k c r why charged (fun l => W (H l)) F N s := by
  have hw := writeEntry_congr { logEntryOf s r k why with failed := charged } (s := s)
    (u := s.modLink (.consumer c) H) rfl rfl
  unfold endedRecord
  rw [show logEntryOf (s.modLink (.consumer c) H) r k why = logEntryOf s r k why from rfl, hw.1, hw.2,
    State.modLink_links, Tab.upd_upd_same]
  rfl

theorem endedRecord_suspect (why : Reason) (charged : BitVec 3) (F : Port → Port) (n : ConsumerSet) (W : Link → Link)
    {b : Bool}
    (hb : b = decide ((F (s.port c)).state = .active ∧
      (F (s.port c)).threshold.val ≤ (F (s.port c)).consecutive.toNat)) :
    suspectCheck c (endedRecord k c r why charged W F (endedNotices k n s) s) =
      endedRecord k c r why charged W (fun p => (F p).suspectIf b)
        (endedNotices k (if b then addTo n c.val else n) s) s := by
  have hp : (endedRecord k c r why charged W F (endedNotices k n s) s).port c = F (s.port c) := Tab.nth_upd_same _ _ _
  rw [suspectCheck_fields (b := b) (by rw [hp]; exact hb)]
  unfold endedRecord
  dsimp only
  rw [Tab.upd_upd_same]
  rfl

/-- What a failure that is charged comes to once the failure decision has abandoned the record. -/
theorem Charges.exec_end {i : Instr} {H : Link → Link} {f : Port → Port} {b : Bool} (h : Charges c r k s i H f b)
    {why : Reason}
    (hw : ∀ (u : State) (g : Port → Port), u.cls k = s.cls k → u.rcd r = s.rcd r →
      failureDecision k r (chargedState c r g u) = abandon r why (chargedState c r g u)) :
    exec i s = .next (placeNotice (endedRecord k c r why (satUp (s.rcd r).failed) (fun l => (H l).withdrawn r)
      (fun p => ((f p).dropped r).suspectIf b) (endedNotices k (suspectsWith b c s.notices) s) s)) := by
  cases h with
  | busy hp hd =>
    rw [exec_nackBusy_accepted hp hd, hw (s.modLink (.consumer c) Link.heard) _ rfl rfl,
      abandon_charged (s := s.modLink (.consumer c) Link.heard) hd,
      endedRecord_heard]
    rfl
  | lapse hd =>
    rw [exec_expiry_due hd, hw _ _ rfl rfl, abandon_charged (Or.inr ⟨0, hd⟩), endedRecord_suspect _ _ _ _ _ rfl]
    rfl

theorem purgeDraining_congr {s u : State} (h : u.cls k = s.cls k) : u.purgeDraining k = s.purgeDraining k := by
  unfold State.purgeDraining
  rw [h]

/-- A failure that ends its record, in full. -/
theorem EndsAt.exec {i : Instr} {H : Link → Link} {f : Port → Port} {b : Bool} {why : Reason} {charged : BitVec 3}
    (h : EndsAt c r k s i H f b why charged) :
    exec i s = .next (placeNotice (endedRecord k c r why charged (fun l => (H l).withdrawn r)
      (fun p => ((f p).dropped r).suspectIf b) (endedNotices k (suspectsWith b c s.notices) s) s)) := by
  cases h with
  | purged h hz => exact h.exec_end fun u g hc _ => failureDecision_purges g ((purgeDraining_congr hc).trans hz)
  | exhausted h hz hf =>
    exact h.exec_end fun u g hc hr =>
      failureDecision_exhausts g ((purgeDraining_congr hc).trans hz) (by rw [hc, hr]; exact hf)
  | rejected hp hd =>
    rw [exec_nackReject_accepted hp hd, abandon_ended (s := s.modLink (.consumer c) Link.heard) hd, endedRecord_heard]
    rfl

theorem EndsAt.kind {i : Instr} {H : Link → Link} {f : Port → Port} {b : Bool} {why : Reason} {charged : BitVec 3}
    (h : EndsAt c r k s i H f b why charged) :
    (i = .nackBusy c ⟨r, (s.rcd r).generation⟩ ∧ H = Link.heard ∧ f = Port.busied ∧ b = false ∧ why ≠ .rejected) ∨
      (i = .expiry r ∧ H = id ∧ f = Port.lapsed ∧ b = overdue c s ∧ why ≠ .rejected) ∨
      (i = .nackReject c ⟨r, (s.rcd r).generation⟩ ∧ H = Link.heard ∧ f = Port.rejected ∧ b = false ∧
        why = .rejected) := by
  have hC : ∀ {why : Reason}, Charges c r k s i H f b → why ≠ .rejected →
      (i = .nackBusy c ⟨r, (s.rcd r).generation⟩ ∧ H = Link.heard ∧ f = Port.busied ∧ b = false ∧ why ≠ .rejected) ∨
        (i = .expiry r ∧ H = id ∧ f = Port.lapsed ∧ b = overdue c s ∧ why ≠ .rejected) := by
    intro why h hw
    cases h with
    | busy => exact Or.inl ⟨rfl, rfl, rfl, rfl, hw⟩
    | lapse => exact Or.inr ⟨rfl, rfl, rfl, rfl, hw⟩
  cases h with
  | purged h => exact (hC h (by decide)).imp_right Or.inl
  | exhausted h => exact (hC h (by decide)).imp_right Or.inl
  | rejected => exact Or.inr (Or.inr ⟨rfl, rfl, rfl, rfl, rfl⟩)

/-- Settles O24, for the five failures at once: `EndsAt` says where they differ. -/
theorem failuresThatAbandonRecord : Obligations.FailuresThatAbandonRecord := by
  intro c r k x why charged s hx i hi
  obtain ⟨H, f, b, hE⟩ : ∃ H f b, EndsAt c r k s i H f b why charged := by
    rcases hi with ⟨hi, rfl, hw⟩ | ⟨rfl, hp, hd, rfl, rfl⟩
    · obtain ⟨H, f, b, hC⟩ : ∃ H f b, Charges c r k s i H f b := by
        rcases hi with ⟨rfl, hp, hd⟩ | ⟨rfl, hd⟩
        · exact ⟨_, _, _, .busy hp hd⟩
        · exact ⟨_, _, _, .lapse hd⟩
      rcases hw with ⟨hz, rfl⟩ | ⟨hz, hf, rfl⟩
      · exact ⟨_, _, _, .purged hC hz⟩
      · exact ⟨_, _, _, .exhausted hC hz hf⟩
    · exact ⟨_, _, _, .rejected hp hd⟩
  have hx' : x = (s.cls k).lost := hx
  obtain ⟨u, hu⟩ : ∃ u, u = endedRecord k c r why charged (fun l => (H l).withdrawn r)
    (fun p => ((f p).dropped r).suspectIf b) (endedNotices k (suspectsWith b c s.notices) s) s := ⟨_, rfl⟩
  have hpc : u.port c = ((f (s.port c)).dropped r).suspectIf b := hu ▸ Tab.nth_upd_same _ _ _
  have hpd : ∀ d, d ≠ c → u.port d = s.port d := fun d hd => hu ▸ Tab.nth_upd_ne _ _ hd
  have hslot : ∀ d, (u.port d).noticeSlot = (s.port d).noticeSlot := fun d => by
    by_cases hd : d = c
    · rw [hd, hpc]
      rcases hE.kind with ⟨-, -, rfl, -⟩ | ⟨-, -, rfl, -⟩ | ⟨-, -, rfl, -⟩ <;> rfl
    · rw [hpd d hd]
  have hport := placeNotice_port_of hpc
  have hlink : (placeNotice u).link (.consumer c) = (H (s.link (.consumer c))).withdrawn r := by
    rw [placeNotice_link, hu]
    exact Tab.nth_upd_same _ _ _
  refine ⟨placeNotice u, hu ▸ hE.exec, ?_, ⟨?_, fun q hq => ?_, ?_⟩, fun a => ?_, fun j hj => ?_, ?_, ?_, fun m hm => ?_,
    ?_, fun hi => ?_, fun hi => ?_, ?_, ?_, ?_, fun d hd => placeNotice_port_of (hpd d hd), b, ?_, ?_, ?_⟩
  · have h := placeNotice_frame u
    generalize placeNotice u = t at h ⊢
    rw [h, hu]
    rfl
  · rw [placeNotice_rcd, hu]
    exact Tab.nth_upd_same _ _ _
  · rw [placeNotice_rcd, hu]
    exact Tab.nth_upd_ne _ _ hq
  · rw [placeNotice_frame, hu]
    rfl
  · rw [placeNotice_level, ← clearPointer_cleared r s a, hu]
    rfl
  · rw [placeNotice_cls, hu]
    exact Tab.nth_upd_ne _ _ hj
  · rw [placeNotice_cls, hu, hx']
    exact Tab.nth_upd_same _ _ _
  · apply LogTakes.placeNotice
    rw [hu]
    exact LogTakes.of_written (u := s) (e := { logEntryOf s r k why with failed := charged }) rfl rfl rfl rfl rfl rfl
  · rw [placeNotice_link, hu]
    exact Tab.nth_upd_ne _ _ (linkIndex_inj.not.mpr hm)
  · rw [hlink]
    rcases hE.kind with ⟨-, rfl, -⟩ | ⟨-, rfl, -⟩ | ⟨-, rfl, -⟩ <;> rfl
  · rw [hlink]
    rcases hE.kind with ⟨rfl, -⟩ | ⟨-, rfl, -⟩ | ⟨rfl, -⟩
    · exact nomatch hi
    · rfl
    · exact nomatch hi
  · rw [hlink]
    rcases hE.kind with ⟨-, rfl, -⟩ | ⟨rfl, -⟩ | ⟨-, rfl, -⟩
    · rfl
    · exact absurd rfl hi
    · rfl
  · rw [hport]
    rcases hE.kind with ⟨-, -, rfl, -⟩ | ⟨-, -, rfl, -⟩ | ⟨-, -, rfl, -⟩ <;> rfl
  · rw [hport]
    rcases hE.kind with ⟨-, -, rfl, -⟩ | ⟨-, -, rfl, -⟩ | ⟨-, -, rfl, -⟩ <;> rfl
  · rw [hport]
    rcases hE.kind with ⟨-, -, rfl, -⟩ | ⟨-, -, rfl, -⟩ | ⟨-, -, rfl, -⟩ <;> rfl
  · rcases hE.kind with ⟨rfl, -, -, rfl, -⟩ | ⟨rfl, -, -, rfl, -⟩ | ⟨rfl, -, -, rfl, -⟩ <;> simp [overdue]
  · rw [hport]
    rcases hE.kind with ⟨rfl, -, rfl, rfl, hw⟩ | ⟨rfl, -, rfl, rfl, hw⟩ | ⟨rfl, -, rfl, rfl, hw⟩ <;>
      simp [Port.suspectIf, Port.dropped, Port.busied, Port.lapsed, Port.rejected, hw]
  · have h := placeNotice_test s u (by rw [hu]; rfl) hslot
    rw [show u.notices = endedNotices k (suspectsWith b c s.notices) s from by rw [hu]; rfl] at h
    rw [hx']
    exact h


end

end Sys2Proof.Machine
end

section
/-! # Abandoning the records of a list one after another -/

namespace Sys2Proof.Machine

/-! ## Freeing keeps the counts -/

section

variable {s t : State} {r : RecIdx} {k : ClassIdx} {c : ConsumerIdx}

/-- The counts depend on the places, the lists and the counters alone. -/
theorem counted_congr (h : Counted s) (hs : ∀ r, (t.rcd r).place.spot = (s.rcd r).place.spot)
    (hq : ∀ k, t.queue k = s.queue k) (hp : ∀ k, (t.cls k).pendingCount = (s.cls k).pendingCount)
    (hd : ∀ k, (t.cls k).dispatchedCount = (s.cls k).dispatchedCount) (hc : ∀ c, t.port c = s.port c) : Counted t where
  pendingCount k := by rw [hp, hq, h.pendingCount]
  dispatchedCount k := by rw [hd, dispatchedOf_congr hs, h.dispatchedCount]
  dispatched c := by rw [hc, h.dispatched]

theorem drainCheck_counted (h : Counted s) : Counted (drainCheck k s) := by
  unfold drainCheck
  split
  · refine counted_congr h (fun _ => rfl) (fun _ => rfl) (fun j => ?_) (fun j => ?_) fun _ => rfl
    all_goals
      refine (congrArg _ (State.modClass_cls s k _ j)).trans ?_
      split <;> rfl
  · exact h

theorem applyHold_counted (h : Counted s) : Counted (applyHold s) := by
  rw [applyHold_frame]
  exact counted_congr h (fun _ => rfl) (fun _ => rfl) (fun _ => rfl) (fun _ => rfl) fun _ => rfl

theorem recordAbandon_counted (h : Counted s) (r : RecIdx) (k : ClassIdx) (why : Reason) :
    Counted (recordAbandon r k why s) := by
  have hs := SameStore.recordAbandon (y := none) s r k why
  refine counted_congr h hs.spot hs.queue hs.pendingCount hs.dispatchedCount fun _ => ?_
  rw [recordAbandon_eq]
  rfl

theorem freeRecord_counted (hp : Placed s) (hc : Counted s) (r : RecIdx) : Counted (freeRecord r s) := by
  rcases place_cases s r with h | ⟨k, h⟩ | ⟨k, c, h⟩
  · rwa [freeRecord_eq_free h]
  · rw [freeRecord_eq_pending h]
    exact applyHold_counted (drainCheck_counted
      ((freePending_relocates hp h).counted (freePending_recounts hp hc h) hp hc))
  · rw [freeRecord_eq_dispatched h]
    exact applyHold_counted (drainCheck_counted
      ((freeDispatched_relocates hp h).counted (freeDispatched_recounts hp hc h) hp hc))

theorem abandon_counted (hp : Placed s) (hc : Counted s) (r : RecIdx) (why : Reason) : Counted (abandon r why s) := by
  unfold abandon
  split
  · exact hc
  · exact freeRecord_counted ((SameStore.recordAbandon (y := none) s r _ why).placed hp) (recordAbandon_counted hc r _ why) r

/-- A class with a record that is not FREE holds some (R69). -/
theorem Counted.holding_pos (hc : Counted s) (hp : Placed s) (h : (s.rcd r).place.cls = some k) :
    (s.cls k).pendingCount + (s.cls k).dispatchedCount ≠ 0 := by
  rcases place_cases s r with hf | ⟨j, hj⟩ | ⟨j, c, hj⟩
  · simp [hf, Place.cls] at h
  · have : j = k := by simpa [hj, Place.cls] using h
    subst this
    have := hc.pendingCount_pos hp hj
    omega
  · have : j = k := Option.some.inj (hj.cls.symm.trans h)
    subst this
    have := hc.dispatchedCount_pos ((hj.dispatchedIn_iff j).mpr rfl)
    omega

end

/-! ## One abandonment, dispatched or pending -/

/-- A class record once one of its pending records has been abandoned. -/
def ClassRecord.purgedOne (x : ClassRecord) : ClassRecord :=
  { x with pendingCount := x.pendingCount - 1, abandoned := satUp x.abandoned }

/-- From `s` to `t` record `r` of class `k` has been abandoned, the class record losing it by `g`: what every abandonment
does, wherever the record stood (R5, R15, R76, R49). -/
def AbandonedBy (g : ClassRecord → ClassRecord) (r : RecIdx) (k : ClassIdx) (why : Reason) (s t : State) : Prop :=
  t = { s with
    links := t.links
    ports := t.ports
    queues := t.queues
    levels := Tab.upd s.levels (levelIndex (s.rcd r).addr) (LevelEntry.unnamed r)
    records := Tab.upd s.records r EventRecord.freed
    freeList := s.freeList ++ [r]
    classes := Tab.upd s.classes k fun x => (g x).drained
    hold := holdNext s (s.freeCount + 1)
    notices :=
      { abandon := true, suspects := s.notices.suspects
        idle := if (g (s.cls k)).drainEnds then addTo s.notices.idle k.val else s.notices.idle
        hold := s.notices.hold || holdRaises s (s.freeCount + 1) }
    log := (writeEntry (logEntryOf s r k why) s).log
    overwrites := (writeEntry (logEntryOf s r k why) s).overwrites
    nextEntry := s.nextEntry + 1 }

section

variable {s t : State} {r : RecIdx} {k : ClassIdx} {c : ConsumerIdx} {why : Reason}

theorem freePending_eq (k : ClassIdx) (r : RecIdx) (s : State) :
    freePending k r s =
      { s with
        records := Tab.upd s.records r EventRecord.freed
        freeList := s.freeList ++ [r]
        queues := Tab.upd s.queues k (without r)
        classes := Tab.upd s.classes k fun x => { x with pendingCount := x.pendingCount - 1 } } := rfl

/-- Freeing a pending record, in full (R5). -/
theorem freeRecord_pending (h : (s.rcd r).place = .pending k) :
    freeRecord r s =
      { s with
        records := Tab.upd s.records r EventRecord.freed
        freeList := s.freeList ++ [r]
        queues := Tab.upd s.queues k (without r)
        classes := Tab.upd s.classes k fun x => ({ x with pendingCount := x.pendingCount - 1 } : ClassRecord).drained
        hold := holdNext s (s.freeCount + 1)
        notices :=
          { s.notices with
            idle := if ({ s.cls k with pendingCount := (s.cls k).pendingCount - 1 } : ClassRecord).drainEnds
              then addTo s.notices.idle k.val else s.notices.idle
            hold := s.notices.hold || holdRaises s (s.freeCount + 1) } } := by
  have hf : (freePending k r s).freeCount = s.freeCount + 1 := List.length_append
  have hc : (freePending k r s).cls k = { s.cls k with pendingCount := (s.cls k).pendingCount - 1 } := by
    rw [freePending_cls, if_pos rfl]
  have hu : Tab.upd (freePending k r s).classes k ClassRecord.drained =
      Tab.upd s.classes k fun x => ({ x with pendingCount := x.pendingCount - 1 } : ClassRecord).drained :=
    Tab.upd_upd_same _ _ _ _
  rw [freeRecord_eq_pending h, rules_after_free s (freePending k r s) k rfl rfl rfl, hf, hc, hu, freePending_eq]

/-- Abandoning a pending record, in full (R15, R76, R49). -/
theorem abandon_pending (h : (s.rcd r).place = .pending k) (why : Reason) :
    AbandonedBy ClassRecord.purgedOne r k why s (abandon r why s) ∧
      (abandon r why s).queues = Tab.upd s.queues k (without r) ∧ (abandon r why s).ports = s.ports ∧
        (abandon r why s).links = s.links := by
  have hd : ((recordAbandon r k why s).rcd r).place = .pending k := by
    rw [recordAbandon_eq]
    exact h
  have hc : (recordAbandon r k why s).cls k = { s.cls k with abandoned := satUp (s.cls k).abandoned } := by
    rw [recordAbandon_eq]
    exact Tab.nth_upd_same _ _ _
  have ha : abandon r why s = freeRecord r (recordAbandon r k why s) := by
    unfold abandon
    rw [h]
    rfl
  unfold AbandonedBy
  rw [ha, freeRecord_pending hd, hc, recordAbandon_eq]
  dsimp only
  rw [Tab.upd_upd_same]
  exact ⟨rfl, rfl, rfl, rfl⟩

/-- Abandoning a dispatched record, in the same words. -/
theorem abandon_dispatchedBy (h : DispatchedTo s r k c) (why : Reason) :
    AbandonedBy ClassRecord.lost r k why s (abandon r why s) := by
  unfold AbandonedBy
  rw [abandon_fields h]

end

end Sys2Proof.Machine
end

section
/-! # A run of abandonments with PURGED -/

namespace Sys2Proof.Machine

/-! ## The hold rule along a run -/

section

variable {s u : State} {n m : Nat}

/-- The hold state is that of the present free count. -/
theorem HoldLawful.holdNext (h : HoldLawful s) : holdNext s s.freeCount = s.hold := by
  unfold Machine.holdNext
  cases hs : s.hold with
  | released => exact if_neg (Nat.not_lt.mpr (h.1 hs))
  | asserted =>
    refine if_neg fun e => ?_
    rcases h.2 hs with hlt | hr
    · exact absurd e.1 (Nat.not_le.mpr hlt)
    · exact hr e.2

theorem holdRaises_of_le (h : HoldLawful s) (hn : s.freeCount ≤ n) : holdRaises s n = false := by
  unfold holdRaises
  cases hs : s.hold with
  | released =>
    have := h.1 hs
    exact (congrArg (_ && ·) (decide_eq_false (by omega))).trans (Bool.and_false _)
  | asserted => rfl

/-- The hold rule applied at two free counts that rise is the hold rule applied at the second. -/
theorem holdNext_holdNext (hd : DeviceLawful s.device) (h : HoldLawful s) (hn : s.freeCount ≤ n) (hm : n ≤ m)
    (he : u.hold = holdNext s n) (hud : u.device = s.device) (hur : u.restart = s.restart) :
    holdNext u m = holdNext s m := by
  obtain ⟨-, -, hlow⟩ := hd
  unfold holdNext at he ⊢
  rw [hud, hur]
  cases hs : s.hold with
  | released =>
    have hf := h.1 hs
    simp only [hs] at he
    rw [if_neg (by omega)] at he
    rw [he]
  | asserted =>
    simp only [hs] at he
    by_cases hc : s.device.high.val ≤ n ∧ s.restart = none
    · rw [if_pos hc] at he
      rw [he]
      simp only
      rw [if_neg (by omega), if_pos ⟨by omega, hc.2⟩]
    · rw [if_neg hc] at he
      rw [he]

theorem HoldLawful.of_freed (hd : DeviceLawful s.device) (h : HoldLawful s) (hn : s.freeCount ≤ u.freeCount)
    (he : u.hold = Machine.holdNext s u.freeCount) (hud : u.device = s.device) (hur : u.restart = s.restart) :
    HoldLawful u := by
  unfold HoldLawful
  unfold Machine.holdNext at he
  rw [hud, hur]
  obtain ⟨-, -, hlow⟩ := hd
  cases hs : s.hold with
  | released =>
    have hf := h.1 hs
    simp only [hs] at he
    rw [if_neg (by omega)] at he
    exact ⟨fun _ => by omega, fun e => by rw [he] at e; cases e⟩
  | asserted =>
    simp only [hs] at he
    by_cases hc : s.device.high.val ≤ u.freeCount ∧ s.restart = none
    · rw [if_pos hc] at he
      exact ⟨fun _ => by omega, fun e => by rw [he] at e; cases e⟩
    · rw [if_neg hc] at he
      refine ⟨fun e => (by rw [he] at e; cases e), fun _ => ?_⟩
      by_cases hr : s.restart = none
      · exact Or.inl (Nat.not_le.mp fun e => hc ⟨e, hr⟩)
      · exact Or.inr hr

end

/-! ## The log along a run -/

section

variable {s u t : State} {r : RecIdx} {rs : List RecIdx} {k : ClassIdx}

theorem LogTakesPurged.nil (hl : LogWithinCapacity s) : LogTakesPurged [] s s where
  log := by
    have : s.log.length + 0 - 16 = 0 := Nat.sub_eq_zero_of_le hl
    rw [List.length_nil, this]
    simp [purgeEntries]
  overwrites := by
    have : s.log.length ≤ 16 := hl
    have := s.overwrites.isLt
    rw [List.length_nil]
    omega
  nextEntry := by simp

/-- The entries of a run are those of its first record and of the rest, the number one on. -/
theorem purgeEntries_cons (hk : (s.rcd r).place.cls = some k) (hrs : ∀ q ∈ rs, u.rcd q = s.rcd q)
    (hn : u.nextEntry = s.nextEntry + 1) (ht : u.timebase = s.timebase) :
    purgeEntries s (r :: rs) = logEntryOf s r k .purged :: purgeEntries u rs := by
  unfold purgeEntries
  rw [List.mapIdx_cons]
  congr 1
  · simp [logEntryOf, hk]
  · rw [List.mapIdx_eq_mapIdx_iff]
    intro i hi
    have hnum : s.nextEntry + BitVec.ofNat 8 (i + 1) = u.nextEntry + BitVec.ofNat 8 i := by
      rw [hn, BitVec.ofNat_add, BitVec.add_comm (BitVec.ofNat 8 i), BitVec.add_assoc]
      rfl
    rw [hrs _ (List.getElem_mem hi), ht, hnum]

theorem LogTakesPurged.cons (hl : LogWithinCapacity s) (hk : (s.rcd r).place.cls = some k)
    (hrs : ∀ q ∈ rs, u.rcd q = s.rcd q) (htb : u.timebase = s.timebase)
    (hu : LogTakes (logEntryOf s r k .purged) s u) (h : LogTakesPurged rs u t) : LogTakesPurged (r :: rs) s t := by
  obtain ⟨hn, hroom, hfull⟩ := hu
  have hcons := purgeEntries_cons hk hrs hn htb
  have hlen : s.log.length ≤ 16 := hl
  refine ⟨?_, ?_, ?_⟩
  · rw [h.log, hcons, List.length_cons]
    by_cases hr : s.log.length < 16
    · rw [(hroom hr).1, List.length_append, List.length_singleton, List.append_assoc, List.singleton_append,
        show s.log.length + 1 + rs.length = s.log.length + (rs.length + 1) from by omega]
    · obtain ⟨x, xs, hx⟩ := List.exists_cons_of_length_pos (l := s.log) (by omega)
      rw [hx, List.length_cons] at hlen hr
      rw [(hfull (by rw [hx, List.length_cons]; omega)).1, hx, List.tail_cons, List.append_assoc, List.singleton_append,
        List.length_append, List.length_singleton, List.length_cons,
        show xs.length + 1 + (rs.length + 1) - 16 = (xs.length + 1 + rs.length - 16) + 1 from by omega, List.cons_append,
        List.drop_succ_cons]
  · rw [h.overwrites, List.length_cons]
    by_cases hr : s.log.length < 16
    · rw [(hroom hr).1, (hroom hr).2, List.length_append, List.length_singleton]
      omega
    · rw [(hfull (by omega)).1, (hfull (by omega)).2, satUp_toNat, List.length_append, List.length_tail,
        List.length_singleton]
      omega
  · rw [h.nextEntry, hn, List.length_cons, BitVec.ofNat_add, BitVec.add_comm (BitVec.ofNat 8 rs.length), BitVec.add_assoc]
    rfl

theorem LogWithinCapacity.of_takes {e : LogEntry} (hl : LogWithinCapacity s) (hu : LogTakes e s u) :
    LogWithinCapacity u := by
  obtain ⟨-, hroom, hfull⟩ := hu
  have hlen : s.log.length ≤ 16 := hl
  unfold LogWithinCapacity
  by_cases hr : s.log.length < 16
  · rw [(hroom hr).1, List.length_append, List.length_singleton]
    omega
  · rw [(hfull (by omega)).1, List.length_append, List.length_tail, List.length_singleton]
    omega

end

/-! ## The class records along a run -/

/-- A class record once `n` of its records have been abandoned one after another, each lost by `g`. -/
def ClassRecord.losing (g : ClassRecord → ClassRecord) (n : Nat) (x : ClassRecord) : ClassRecord :=
  if n = 0 then x else (g^[n] x).drained

/-- Some of these losses ended the drain of the class. -/
def ClassRecord.losingEnds (g : ClassRecord → ClassRecord) (n : Nat) (x : ClassRecord) : Bool :=
  n != 0 && (g^[n] x).drainEnds

/-- The number of records of the list that are of class `k`. -/
def countIn (s : State) (rs : List RecIdx) (k : ClassIdx) : Nat := rs.countP fun r => (s.rcd r).place.cls == some k

theorem drained_of_not_ends {x : ClassRecord} (h : x.drainEnds = false) : x.drained = x := by
  unfold ClassRecord.drained
  refine if_neg fun e => ?_
  simp [ClassRecord.drainEnds, e.1, e.2] at h

theorem empty_of_drainEnds {x : ClassRecord} (h : x.drainEnds = true) :
    x.drained.pendingCount + x.drained.dispatchedCount = 0 := by
  have he : x.pendingCount + x.dispatchedCount = 0 := by
    simpa using (Bool.and_eq_true_iff.mp h).2
  unfold ClassRecord.drained
  split <;> exact he

/-- The first of several losses does not end the drain, so the others go on from it. -/
theorem losing_succ {g : ClassRecord → ClassRecord} {n : Nat} {x : ClassRecord}
    (h : (g x).drainEnds = true → n = 0) : (g x).drained.losing g n = x.losing g (n + 1) := by
  unfold ClassRecord.losing
  rw [if_neg (Nat.succ_ne_zero n), Function.iterate_succ_apply]
  by_cases hn : n = 0
  · rw [if_pos hn, hn]
    rfl
  · have he : (g x).drainEnds = false := by simpa using fun e => hn (h e)
    rw [if_neg hn, drained_of_not_ends he]

theorem losingEnds_succ {g : ClassRecord → ClassRecord} {n : Nat} {x : ClassRecord}
    (h : (g x).drainEnds = true → n = 0) :
    ((g x).drainEnds || (g x).drained.losingEnds g n) = x.losingEnds g (n + 1) := by
  unfold ClassRecord.losingEnds
  rw [Function.iterate_succ_apply]
  by_cases hn : n = 0
  · simp [hn]
  · have he : (g x).drainEnds = false := by simpa using fun e => hn (h e)
    rw [drained_of_not_ends he, he]
    simp [hn]

theorem inSet_addTo {w : Nat} (m : BitVec w) (i j : Nat) (hj : j < w) :
    inSet (addTo m i) j = (inSet m j || decide (j = i)) := by
  unfold inSet addTo
  rw [BitVec.getLsbD_or, BitVec.getLsbD_twoPow]
  by_cases h : i = j
  · simp [h, hj]
  · simp [h, Ne.symm h]

/-! ## The run -/

/-- The laws that a run of abandonments rests on. -/
structure Purgeable (s : State) : Prop where
  placed : Placed s
  counted : Counted s
  log : LogWithinCapacity s
  device : DeviceLawful s.device
  hold : HoldLawful s

theorem Sound.purgeable {s : State} (h : Sound s) : Purgeable s := ⟨h.placed, h.counted, h.log, h.device, h.hold⟩

/-- A record at this place is of class `k`, and when it is abandoned its class record loses it by `g`. -/
def LosesBy (g : ClassRecord → ClassRecord) (k : ClassIdx) (p : Place) : Prop :=
  p.cls = some k ∧ ∀ t r why, (t.rcd r).place = p → AbandonedBy g r k why t (abandon r why t)

/-- From `s` to `t` the records of the list have been abandoned with PURGED, in list order, their class records losing
them by `g`: what such a run does, wherever the records stood. -/
structure PurgeRun (g : ClassRecord → ClassRecord) (rs : List RecIdx) (s t : State) : Prop where
  frame : t = { s with
    links := t.links, ports := t.ports, queues := t.queues, levels := t.levels, records := t.records
    freeList := t.freeList, classes := t.classes, hold := t.hold, notices := t.notices, log := t.log
    overwrites := t.overwrites, nextEntry := t.nextEntry }
  rcd : ∀ q, t.rcd q = if q ∈ rs then (s.rcd q).freed else s.rcd q
  level : ∀ b, t.level b =
    if ∃ r ∈ rs, b = (s.rcd r).addr ∧ (s.level b).pendingRec = some r then { s.level b with pendingRec := none }
    else s.level b
  freeList : t.freeList = s.freeList ++ rs
  cls : ∀ k, t.cls k = (s.cls k).losing g (countIn s rs k)
  hold : t.hold = holdNext s (s.freeCount + rs.length)
  abandon : t.notices.abandon = (s.notices.abandon || !rs.isEmpty)
  suspects : t.notices.suspects = s.notices.suspects
  idle : ∀ k : ClassIdx, inSet t.notices.idle k.val =
    (inSet s.notices.idle k.val || (s.cls k).losingEnds g (countIn s rs k))
  holdKind : t.notices.hold = s.notices.hold
  log : LogTakesPurged rs s t

section

variable {g : ClassRecord → ClassRecord} {s u t : State} {r : RecIdx} {rs : List RecIdx} {k : ClassIdx}

theorem PurgeRun.nil (hs : Purgeable s) : PurgeRun g [] s s where
  frame := rfl
  rcd q := by simp
  level b := by simp
  freeList := by simp
  cls k := rfl
  hold := hs.hold.holdNext.symm
  abandon := by simp
  suspects := rfl
  idle k := by simp [countIn, ClassRecord.losingEnds]
  holdKind := rfl
  log := .nil hs.log

/-! ### Reading one abandonment -/

section

variable {why : Reason} (h : AbandonedBy g r k why s u)

include h

theorem AbandonedBy.rcd (q : RecIdx) : u.rcd q = if q = r then (s.rcd q).freed else s.rcd q := by
  rw [h]
  exact Tab.nth_upd s.records r q EventRecord.freed

theorem AbandonedBy.cls (j : ClassIdx) : u.cls j = if j = k then (g (s.cls j)).drained else s.cls j := by
  rw [h]
  exact Tab.nth_upd s.classes k j fun x => (g x).drained

theorem AbandonedBy.level : PointerCleared r s u := by
  intro b
  rw [← clearPointer_cleared r s b, h]
  rfl

theorem AbandonedBy.takes : LogTakes (logEntryOf s r k why) s u := by
  rw [h]
  exact .of_written (u := s) rfl rfl rfl rfl rfl rfl

theorem AbandonedBy.freeCount : u.freeCount = s.freeCount + 1 := by
  rw [h]
  exact List.length_append

theorem AbandonedBy.idle (j : ClassIdx) : inSet u.notices.idle j.val =
    (inSet s.notices.idle j.val || (decide (j = k) && (g (s.cls k)).drainEnds)) := by
  rw [h]
  dsimp only
  cases (g (s.cls k)).drainEnds with
  | false => simp
  | true =>
    rw [if_pos rfl, inSet_addTo _ _ _ j.isLt, Bool.and_true]
    simp only [Fin.ext_iff]

theorem AbandonedBy.countIn (hr : r ∉ rs) (j : ClassIdx) : countIn u rs j = countIn s rs j := by
  refine List.countP_congr fun q hq => ?_
  rw [h.rcd, if_neg fun e : q = r => hr (e ▸ hq)]

end

theorem countIn_cons (hk : (s.rcd r).place.cls = some k) (j : ClassIdx) :
    countIn s (r :: rs) j = countIn s rs j + if j = k then 1 else 0 := by
  unfold countIn
  rw [List.countP_cons, hk]
  by_cases hj : j = k
  · simp [hj]
  · simp [hj, Ne.symm hj]

/-- A record that is not FREE counts in its class, so a class that holds none has none in the list. -/
theorem countIn_eq_zero (hp : Placed s) (hc : Counted s) (h : (s.cls k).pendingCount + (s.cls k).dispatchedCount = 0) :
    countIn s rs k = 0 :=
  List.countP_eq_zero.mpr fun q _ hq => hc.holding_pos hp (by simpa using hq) h

theorem Purgeable.abandon {why : Reason} (hs : Purgeable s) (h : AbandonedBy g r k why s (abandon r why s)) :
    Purgeable (abandon r why s) where
  placed := abandon_placed hs.placed r why
  counted := abandon_counted hs.placed hs.counted r why
  log := hs.log.of_takes h.takes
  device := by
    rw [h]
    exact hs.device
  hold := by
    refine hs.hold.of_freed hs.device (by rw [h.freeCount]; exact Nat.le_succ _) ?_ (by rw [h]) (by rw [h])
    rw [h.freeCount]
    rw [h]

theorem PurgeRun.cons (hs : Purgeable s) (hu : Purgeable u) (hk : (s.rcd r).place.cls = some k)
    (h : AbandonedBy g r k .purged s u) (hr : r ∉ rs) (ht : PurgeRun g rs u t) : PurgeRun g (r :: rs) s t := by
  have hcount : (g (s.cls k)).drainEnds = true → countIn s rs k = 0 := fun he => by
    rw [← h.countIn hr]
    refine countIn_eq_zero hu.placed hu.counted ?_
    rw [h.cls, if_pos rfl]
    exact empty_of_drainEnds he
  have hother : ∀ q ∈ rs, u.rcd q = s.rcd q := fun q hq => by rw [h.rcd, if_neg fun e : q = r => hr (e ▸ hq)]
  constructor
  case frame =>
    rw [ht.frame, h]
  case rcd =>
    intro q
    rw [ht.rcd, h.rcd]
    by_cases h1 : q ∈ rs <;> by_cases h2 : q = r
    · exact absurd (h2 ▸ h1) hr
    · simp [h1, h2]
    · simp [h2, hr]
    · simp [h1, h2]
  case level =>
    intro b
    have hu : (∃ q ∈ rs, b = (u.rcd q).addr ∧ (u.level b).pendingRec = some q) ↔
        ∃ q ∈ rs, b = (s.rcd q).addr ∧ (u.level b).pendingRec = some q :=
      exists_congr fun q => and_congr_right fun hq => by rw [hother q hq]
    rw [ht.level]
    simp only [hu, List.mem_cons, exists_eq_or_imp]
    rw [h.level b]
    by_cases hb : b = (s.rcd r).addr ∧ (s.level b).pendingRec = some r
    · rw [if_pos hb, if_pos (Or.inl hb), if_neg]
      rintro ⟨q, -, -, hq⟩
      cases hq
    · rw [if_neg hb]
      simp only [hb, false_or]
  case freeList =>
    rw [ht.freeList, h]
    exact List.append_assoc _ _ _
  case cls =>
    intro j
    rw [ht.cls, h.cls, h.countIn hr, countIn_cons hk]
    by_cases hj : j = k
    · subst hj
      rw [if_pos rfl, if_pos rfl, losing_succ hcount]
    · rw [if_neg hj, if_neg hj, Nat.add_zero]
  case hold =>
    rw [ht.hold, h.freeCount, List.length_cons]
    have e : s.freeCount + (rs.length + 1) = s.freeCount + 1 + rs.length := by omega
    rw [e]
    exact holdNext_holdNext hs.device hs.hold (Nat.le_succ _) (Nat.le_add_right _ _) (by rw [h]) (by rw [h]) (by rw [h])
  case abandon =>
    rw [ht.abandon, h]
    simp
  case suspects =>
    rw [ht.suspects, h]
  case idle =>
    intro j
    rw [ht.idle, h.countIn hr, countIn_cons hk, h.cls, h.idle, Bool.or_assoc]
    by_cases hj : j = k
    · subst hj
      rw [if_pos rfl, if_pos rfl, decide_eq_true rfl, Bool.true_and, losingEnds_succ hcount]
    · rw [if_neg hj, if_neg hj, decide_eq_false hj, Bool.false_and, Bool.false_or, Nat.add_zero]
  case holdKind =>
    rw [ht.holdKind, h]
    exact (congrArg _ (holdRaises_of_le hs.hold (Nat.le_succ _))).trans (Bool.or_false _)
  case log =>
    exact ht.log.cons hs.log hk hother (by rw [h]) h.takes

end

end Sys2Proof.Machine
end

section
/-! # Runs of abandonments of dispatched and of pending records -/

namespace Sys2Proof.Machine

section

variable {g : ClassRecord → ClassRecord} {s t : State} {r : RecIdx} {rs : List RecIdx} {k : ClassIdx}

theorem abandonAll_cons (r : RecIdx) (rs : List RecIdx) (why : Reason) (s : State) :
    abandonAll (r :: rs) why s = abandonAll rs why (abandon r why s) := rfl

theorem abandon_place_of_mem {why : Reason} {q : RecIdx} (hr : r ∉ rs) (hq : q ∈ rs) :
    ((abandon r why s).rcd q).place = (s.rcd q).place := by
  rw [abandon_place, if_neg fun e : q = r => hr (e ▸ hq)]

theorem abandonAll_placed (rs : List RecIdx) (why : Reason) (hp : Placed s) : Placed (abandonAll rs why s) := by
  induction rs generalizing s with
  | nil => exact hp
  | cons r rs ih => exact ih (abandon_placed hp r why)

/-- Abandoning the records of a list one after another with PURGED is such a run. -/
theorem abandonAll_run (hs : Purgeable s) (hn : rs.Nodup) (hr : ∀ r ∈ rs, ∃ k, LosesBy g k (s.rcd r).place) :
    PurgeRun g rs s (abandonAll rs .purged s) := by
  induction rs generalizing s with
  | nil => exact .nil hs
  | cons r rs ih =>
    obtain ⟨hnr, hn'⟩ := List.nodup_cons.mp hn
    obtain ⟨k, hk, hl⟩ := hr r List.mem_cons_self
    have hu : AbandonedBy g r k .purged s (abandon r .purged s) := hl s r .purged rfl
    have hs' := hs.abandon hu
    refine .cons hs hs' hk hu hnr (ih hs' hn' fun q hq => ?_)
    rw [abandon_place_of_mem hnr hq]
    exact hr q (List.mem_cons_of_mem _ hq)

/-! ## Dispatched records -/

/-- A port with no dispatched record. -/
def Port.emptied (p : Port) : Port := { p with tx := [], waitingAck := [], dispatched := 0 }

/-- A link once the DELIVERs of all these records are withdrawn. -/
def Link.withdrawnAll (rs : List RecIdx) (l : Link) : Link := { l with wire := rs.foldl Wire.withdraw l.wire }

theorem losesBy_dispatched {c : ConsumerIdx} (h : DispatchedTo s r k c) :
    LosesBy ClassRecord.lost k (s.rcd r).place := by
  refine ⟨h.cls, fun t q why hq => abandon_dispatchedBy (c := c) ?_ why⟩
  unfold DispatchedTo
  rw [hq]
  exact h

/-- What a run of abandonments of dispatched records of consumer `c` leaves where the records stood. -/
theorem abandonAll_dispatched {c : ConsumerIdx} (why : Reason) (hn : rs.Nodup)
    (hr : ∀ r ∈ rs, ∃ k, DispatchedTo s r k c) :
    (abandonAll rs why s).queues = s.queues ∧
      Tab.upd (abandonAll rs why s).ports c Port.emptied = Tab.upd s.ports c Port.emptied ∧
        (abandonAll rs why s).links = Tab.upd s.links (linkIndex (.consumer c)) (Link.withdrawnAll rs) := by
  induction rs generalizing s with
  | nil => exact ⟨rfl, rfl, (Tab.upd_eq_self _ _ _ rfl).symm⟩
  | cons r rs ih =>
    obtain ⟨hnr, hn'⟩ := List.nodup_cons.mp hn
    obtain ⟨k, hk⟩ := hr r List.mem_cons_self
    obtain ⟨hq, hp, hl⟩ := ih (s := abandon r why s) hn' fun q hq => by
      unfold DispatchedTo
      rw [abandon_place_of_mem hnr hq]
      exact hr q (List.mem_cons_of_mem _ hq)
    rw [abandonAll_cons, hq, hp, hl, abandon_fields hk]
    dsimp only
    rw [Tab.upd_upd_same, Tab.upd_upd_same]
    exact ⟨rfl, rfl, rfl⟩

/-- The tried set that is marked before an abandonment goes with the record. -/
theorem abandon_markTried {c d : ConsumerIdx} (why : Reason) (h : DispatchedTo s r k c) :
    abandon r why (markTried d r s) = abandon r why s := by
  have hm : (markTried d r s).rcd r = { s.rcd r with tried := addTo (s.rcd r).tried d.val } :=
    Tab.nth_upd_same _ _ _
  have hd : DispatchedTo (markTried d r s) r k c := by
    unfold DispatchedTo
    rw [hm]
    exact h
  have he : logEntryOf (markTried d r s) r k why = logEntryOf s r k why := by
    unfold logEntryOf
    rw [hm]
    rfl
  have hw := writeEntry_congr (logEntryOf s r k why) (s := s) (u := markTried d r s) rfl rfl
  rw [abandon_fields hd, abandon_fields h, he, hw.1, hw.2, hm]
  unfold markTried State.modRec
  dsimp only
  rw [Tab.upd_upd_same]
  rfl

theorem abandons_eq_abandonAll {c : ConsumerIdx} (hn : rs.Nodup) (hr : ∀ r ∈ rs, ∃ k, DispatchedTo s r k c) :
    rs.foldl (fun t r => abandon r .purged (markTried c r t)) s = abandonAll rs .purged s := by
  induction rs generalizing s with
  | nil => rfl
  | cons r rs ih =>
    obtain ⟨hnr, hn'⟩ := List.nodup_cons.mp hn
    obtain ⟨k, hk⟩ := hr r List.mem_cons_self
    rw [List.foldl_cons, abandon_markTried _ hk, abandonAll_cons]
    refine ih hn' fun q hq => ?_
    unfold DispatchedTo
    rw [abandon_place_of_mem hnr hq]
    exact hr q (List.mem_cons_of_mem _ hq)

/-! ## Pending records -/

theorem losesBy_pending (k : ClassIdx) : LosesBy ClassRecord.purgedOne k (.pending k) :=
  ⟨rfl, fun _ _ why h => (abandon_pending h why).1⟩

/-- What a run of abandonments of pending records of class `k` leaves elsewhere. -/
theorem abandonAll_pending (why : Reason) (hn : rs.Nodup) (hr : ∀ r ∈ rs, (s.rcd r).place = .pending k) :
    (∀ j, j ≠ k → (abandonAll rs why s).queue j = s.queue j) ∧ (abandonAll rs why s).ports = s.ports ∧
      (abandonAll rs why s).links = s.links := by
  induction rs generalizing s with
  | nil => exact ⟨fun _ _ => rfl, rfl, rfl⟩
  | cons r rs ih =>
    obtain ⟨hnr, hn'⟩ := List.nodup_cons.mp hn
    obtain ⟨hq, hp, hl⟩ := ih (s := abandon r why s) hn' fun q hq => by
      rw [abandon_place_of_mem hnr hq]
      exact hr q (List.mem_cons_of_mem _ hq)
    obtain ⟨-, h1, h2, h3⟩ := abandon_pending (hr r List.mem_cons_self) why
    rw [abandonAll_cons, hp, hl, h2, h3]
    refine ⟨fun j hj => (hq j hj).trans ?_, rfl, rfl⟩
    unfold State.queue
    rw [h1]
    exact Tab.nth_upd_ne _ _ hj

/-! ## The class records of the two kinds of runs -/

theorem satUp_iterate_toNat {w : Nat} (x : BitVec w) (n : Nat) :
    (satUp^[n] x).toNat = min (2 ^ w - 1) (x.toNat + n) := by
  induction n generalizing x with
  | zero =>
    have := x.isLt
    rw [Function.iterate_zero, id]
    omega
  | succ n ih =>
    rw [Function.iterate_succ_apply, ih, satUp_toNat]
    omega

theorem lost_iterate (x : ClassRecord) (n : Nat) :
    ClassRecord.lost^[n] x =
      { x with dispatchedCount := x.dispatchedCount - n, abandoned := satUp^[n] x.abandoned } := by
  induction n generalizing x with
  | zero => rfl
  | succ n ih =>
    rw [Function.iterate_succ_apply, ih, Function.iterate_succ_apply, Nat.add_comm n 1, ← Nat.sub_sub]
    rfl

theorem purgedOne_iterate (x : ClassRecord) (n : Nat) :
    ClassRecord.purgedOne^[n] x =
      { x with pendingCount := x.pendingCount - n, abandoned := satUp^[n] x.abandoned } := by
  induction n generalizing x with
  | zero => rfl
  | succ n ih =>
    rw [Function.iterate_succ_apply, ih, Function.iterate_succ_apply, Nat.add_comm n 1, ← Nat.sub_sub]
    rfl

end

end Sys2Proof.Machine
end

section
/-! # A run of returns, and the return of all -/

namespace Sys2Proof.Machine

/-! ## Withdrawing many DELIVERs from a wire -/

/-- Only a DELIVER on the wire is finished by withdrawals, and only when its record is among those withdrawn. -/
theorem foldl_withdraw (rs : List RecIdx) (w : Wire) :
    rs.foldl Wire.withdraw w =
      match w with
      | .sending (.deliver d) => if d.tag.index ∈ rs then .finishing d else .sending (.deliver d)
      | x => x := by
  induction rs generalizing w with
  | nil =>
    cases w with
    | sending x => cases x <;> rfl
    | _ => rfl
  | cons r rs ih =>
    rw [List.foldl_cons, ih]
    cases w with
    | sending x =>
      cases x with
      | deliver d =>
        by_cases h : d.tag.index = r
        · simp [Wire.withdraw, h]
        · simp [Wire.withdraw, h]
      | _ => rfl
    | _ => rfl

/-- So the order of the withdrawals is all the same. -/
theorem foldl_withdraw_congr {rs qs : List RecIdx} (h : ∀ r, r ∈ rs ↔ r ∈ qs) (w : Wire) :
    rs.foldl Wire.withdraw w = qs.foldl Wire.withdraw w := by
  rw [foldl_withdraw, foldl_withdraw]
  simp only [h]

theorem withdraw_foldl (r : RecIdx) (rs : List RecIdx) (w : Wire) :
    (rs.foldl Wire.withdraw w).withdraw r = (r :: rs).foldl Wire.withdraw w := by
  have h : (rs ++ [r]).foldl Wire.withdraw w = (rs.foldl Wire.withdraw w).withdraw r := List.foldl_append
  rw [← h]
  refine foldl_withdraw_congr (fun q => ?_) w
  rw [List.mem_append, List.mem_singleton, List.mem_cons, or_comm]

/-! ## A run of returns -/

/-- A class record once `n` of its dispatched records have been returned. -/
def ClassRecord.returning (n : Nat) (x : ClassRecord) : ClassRecord :=
  { x with dispatchedCount := x.dispatchedCount - n, pendingCount := x.pendingCount + n }

/-- From `s` to `t` the records of the list, dispatched to consumer `c`, have been returned, the last one first. -/
structure ReturnRun (c : ConsumerIdx) (rs : List RecIdx) (s t : State) : Prop where
  frame : t = { s with
    links := Tab.upd s.links (linkIndex (.consumer c)) (Link.withdrawnAll rs), ports := t.ports, queues := t.queues
    records := t.records, classes := t.classes }
  returned : ∀ q k, q ∈ rs → (s.rcd q).place.cls = some k →
    t.rcd q = { s.rcd q with place := .pending k, tried := addTo (s.rcd q).tried c.val }
  others : ∀ q, q ∉ rs → t.rcd q = s.rcd q
  queue : ∀ k, t.queue k = rs.filter (fun r => (s.rcd r).place.cls == some k) ++ s.queue k
  cls : ∀ k, t.cls k = (s.cls k).returning (countIn s rs k)
  ports : Tab.upd t.ports c Port.emptied = Tab.upd s.ports c Port.emptied

section

variable {s t : State} {r : RecIdx} {rs : List RecIdx} {k : ClassIdx} {c : ConsumerIdx}

theorem ReturnRun.nil : ReturnRun c [] s s where
  frame := by
    rw [Tab.upd_eq_self _ _ _ rfl]
  returned q k hq := nomatch hq
  others _ _ := rfl
  queue _ := rfl
  cls _ := rfl
  ports := rfl

theorem ReturnRun.cons (hd : DispatchedTo s r k c) (hr : r ∉ rs) (h : ReturnRun c rs s t) :
    ReturnRun c (r :: rs) s (returnRecord r t) := by
  have hrr : t.rcd r = s.rcd r := h.others r hr
  have ht : DispatchedTo t r k c := by
    unfold DispatchedTo
    rw [hrr]
    exact hd
  constructor
  case frame =>
    have hl : t.links = Tab.upd s.links (linkIndex (.consumer c)) (Link.withdrawnAll rs) := congrArg State.links h.frame
    have hw : Tab.upd t.links (linkIndex (.consumer c)) (fun l => { l with wire := l.wire.withdraw r }) =
        Tab.upd s.links (linkIndex (.consumer c)) (Link.withdrawnAll (r :: rs)) := by
      rw [hl, Tab.upd_upd_same]
      refine congrArg _ (funext fun l => ?_)
      exact congrArg (fun w => { l with wire := w }) (withdraw_foldl r rs l.wire)
    rw [returnRecord_dispatched ht, ← hw, h.frame]
  case returned =>
    intro q j hq hj
    rw [returnRecord_rcd ht]
    by_cases e : q = r
    · subst e
      rw [if_pos rfl, hrr, Option.some.inj (hd.cls.symm.trans hj)]
    · rw [if_neg e]
      exact h.returned q j ((List.mem_cons.mp hq).resolve_left e) hj
  case others =>
    intro q hq
    rw [List.mem_cons, not_or] at hq
    rw [returnRecord_rcd ht, if_neg hq.1, h.others q hq.2]
  case queue =>
    intro j
    rw [returnRecord_queue ht, h.queue, List.filter_cons, hd.cls]
    by_cases hj : j = k
    · simp [hj]
    · simp [hj, Ne.symm hj]
  case cls =>
    intro j
    rw [returnRecord_cls ht, h.cls, countIn_cons hd.cls]
    by_cases hj : j = k
    · rw [if_pos hj, if_pos hj]
      unfold ClassRecord.returning
      rw [← Nat.sub_sub, ← Nat.add_assoc]
    · rw [if_neg hj, if_neg hj, Nat.add_zero]
  case ports =>
    rw [← h.ports, returnRecord_dispatched ht]
    exact Tab.upd_upd_same _ _ _ _

/-- Returning the records of a list one after another, from the last to the first, is such a run. -/
theorem returns_run (hn : rs.Nodup) (hr : ∀ r ∈ rs, ∃ k, DispatchedTo s r k c) :
    ReturnRun c rs s (rs.foldr (fun r t => returnRecord r t) s) := by
  induction rs with
  | nil => exact .nil
  | cons r rs ih =>
    obtain ⟨hnr, hn'⟩ := List.nodup_cons.mp hn
    obtain ⟨k, hk⟩ := hr r List.mem_cons_self
    exact .cons hk hnr (ih hn' fun q hq => hr q (List.mem_cons_of_mem _ hq))

/-! ## The return of all -/

section

variable {s : State} {c : ConsumerIdx}

theorem purgedHere_of_cls {r : RecIdx} {k : ClassIdx} (h : (s.rcd r).place.cls = some k) :
    purgedHere s r = s.purgeDraining k := by
  unfold purgedHere
  rw [h]

/-- The records of a purge-draining class are among those abandoned, and of those of any other none. -/
theorem filter_purgedOf (s : State) (c : ConsumerIdx) (k : ClassIdx) :
    ((purgedOf s c).filter fun r => (s.rcd r).place.cls == some k) = if s.purgeDraining k then grantedIn s c k else [] := by
  unfold purgedOf grantedIn
  rw [List.filter_filter]
  by_cases hz : s.purgeDraining k = true
  · rw [if_pos hz]
    refine List.filter_congr fun r _ => ?_
    by_cases h : (s.rcd r).place.cls = some k
    · simp [h, purgedHere_of_cls h, hz]
    · simp [h]
  · rw [if_neg hz, List.filter_eq_nil_iff]
    intro r _
    by_cases h : (s.rcd r).place.cls = some k
    · simp [h, purgedHere_of_cls h, hz]
    · simp [h]

theorem filter_returnedOf (s : State) (c : ConsumerIdx) (k : ClassIdx) :
    ((returnedOf s c).filter fun r => (s.rcd r).place.cls == some k) = if s.purgeDraining k then [] else grantedIn s c k := by
  unfold returnedOf grantedIn
  rw [List.filter_filter]
  by_cases hz : s.purgeDraining k = true
  · rw [if_pos hz, List.filter_eq_nil_iff]
    intro r _
    by_cases h : (s.rcd r).place.cls = some k
    · simp [h, purgedHere_of_cls h, hz]
    · simp [h]
  · rw [if_neg hz]
    refine List.filter_congr fun r _ => ?_
    by_cases h : (s.rcd r).place.cls = some k
    · simp [h, purgedHere_of_cls h, hz]
    · simp [h]

theorem countIn_eq_length (s : State) (rs : List RecIdx) (k : ClassIdx) :
    countIn s rs k = (rs.filter fun r => (s.rcd r).place.cls == some k).length := List.countP_eq_length_filter

/-- Some address has any given index. -/
theorem exists_levelIndex (i : Fin 4096) : ∃ b : Addr, levelIndex b = i :=
  ⟨⟨⟨i.val / 1024, by omega⟩, ⟨i.val / 64 % 16, by omega⟩, ⟨i.val % 64, by omega⟩⟩,
    Fin.ext (by simp only [levelIndex]; omega)⟩

/-- No pointer names a record that is not PENDING (R63). -/
theorem PointersLawful.unnamed (h : PointersLawful s) {r : RecIdx} {k : ClassIdx} {d : ConsumerIdx}
    (hd : DispatchedTo s r k d) (b : Addr) : (s.level b).pendingRec ≠ some r := fun e => by
  obtain ⟨⟨j, hj⟩, -⟩ := h (levelIndex b) r e
  exact hd.not_pending j hj

/-- The state in which the records of consumer `c` in purge-draining classes have been abandoned. -/
def purgedAt (c : ConsumerIdx) (s : State) : State := abandonAll (purgedOf s c) .purged s

theorem mem_purgedOf {r : RecIdx} : r ∈ purgedOf s c ↔ r ∈ grantedTo s c ∧ purgedHere s r = true := List.mem_filter

theorem mem_returnedOf {r : RecIdx} : r ∈ returnedOf s c ↔ r ∈ grantedTo s c ∧ purgedHere s r = false := by
  unfold returnedOf
  rw [List.mem_filter, Bool.not_eq_true']

section

variable (hs : Sound s) (c)

include hs

theorem purgedOf_nodup : (purgedOf s c).Nodup := (grantedTo_nodup hs.placed c).filter _

theorem purgedOf_dispatched : ∀ r ∈ purgedOf s c, ∃ k, DispatchedTo s r k c := fun _ hr =>
  mem_grantedTo_dispatched hs.placed (mem_purgedOf.mp hr).1

theorem purgedAt_run : PurgeRun ClassRecord.lost (purgedOf s c) s (purgedAt c s) :=
  abandonAll_run hs.purgeable (purgedOf_nodup c hs) fun r hr =>
    (purgedOf_dispatched c hs r hr).imp fun _ => losesBy_dispatched

theorem purgedAt_rcd {r : RecIdx} (hr : r ∉ purgedOf s c) : (purgedAt c s).rcd r = s.rcd r :=
  ((purgedAt_run c hs).rcd r).trans (if_neg hr)

theorem returnedOf_rcd {r : RecIdx} (hr : r ∈ returnedOf s c) : (purgedAt c s).rcd r = s.rcd r :=
  purgedAt_rcd c hs fun e => by
    have h1 := (mem_purgedOf.mp e).2
    rw [(mem_returnedOf.mp hr).2] at h1
    cases h1

theorem claimedBack_run : ReturnRun c (returnedOf s c) (purgedAt c s) (claimedBack c s) := by
  unfold claimedBack
  rw [abandons_eq_abandonAll (purgedOf_nodup c hs) (purgedOf_dispatched c hs)]
  refine returns_run ((grantedTo_nodup hs.placed c).filter _) fun r hr => ?_
  unfold DispatchedTo
  rw [returnedOf_rcd c hs hr]
  exact mem_grantedTo_dispatched hs.placed (mem_returnedOf.mp hr).1

end

end

end

end Sys2Proof.Machine
end

section
/-! # What the return of all leaves -/

namespace Sys2Proof.Machine

theorem State.purgeDraining_state (s : State) {k : ClassIdx} (h : s.purgeDraining k = true) :
    (s.cls k).state = .draining :=
  eq_of_beq (Bool.and_eq_true_iff.mp h).1

/-- A drain ends exactly where the drain rule leaves the class DISABLED. -/
theorem drained_disabled {x : ClassRecord} (h : x.state = .draining) : x.drained.state = .disabled ↔ x.drainEnds = true := by
  unfold ClassRecord.drained ClassRecord.drainEnds
  by_cases he : x.pendingCount + x.dispatchedCount = 0
  · rw [if_pos ⟨h, he⟩, h, he]
    simp
  · rw [if_neg fun e => he e.2, h, decide_eq_false he]
    simp

theorem losingEnds_lost {x : ClassRecord} (h : x.state = .draining) {α : Type} (rs : List α) :
    x.losingEnds ClassRecord.lost rs.length =
      decide (rs ≠ [] ∧ (x.losing ClassRecord.lost rs.length).state = .disabled) := by
  have hx : (ClassRecord.lost^[rs.length] x).state = .draining := by rw [lost_iterate]; exact h
  unfold ClassRecord.losingEnds ClassRecord.losing
  cases rs with
  | nil => rfl
  | cons y ys =>
    rw [if_neg (show (y :: ys).length ≠ 0 from Nat.succ_ne_zero _), Bool.eq_iff_iff, decide_eq_true_iff, drained_disabled hx]
    simp

section

variable {s : State} (c : ConsumerIdx) (hs : Sound s)

include hs

theorem countIn_returnedOf (k : ClassIdx) : countIn (purgedAt c s) (returnedOf s c) k = countIn s (returnedOf s c) k :=
  List.countP_congr fun r hr => by rw [returnedOf_rcd c hs hr]

theorem purgedAt_level (b : Addr) : (purgedAt c s).level b = s.level b := by
  rw [(purgedAt_run c hs).level, if_neg]
  rintro ⟨r, hr, -, e⟩
  obtain ⟨k, hk⟩ := purgedOf_dispatched c hs r hr
  exact hs.pointers.unnamed hk b e

theorem purgedAt_levels : (purgedAt c s).levels = s.levels :=
  Tab.ext_nth fun i => by
    obtain ⟨b, rfl⟩ := exists_levelIndex i
    exact purgedAt_level c hs b

/-- What the claim on every record of consumer `c` leaves outside the records, their lists and the class records. -/
theorem claimedBack_frame : claimedBack c s =
    { purgedAt c s with
      links := Tab.upd s.links (linkIndex (.consumer c)) (Link.withdrawnAll (grantedTo s c))
      ports := (claimedBack c s).ports, queues := (claimedBack c s).queues, records := (claimedBack c s).records
      classes := (claimedBack c s).classes } := by
  have h := (claimedBack_run c hs).frame
  have hp := (abandonAll_dispatched .purged (purgedOf_nodup c hs) (purgedOf_dispatched c hs)).2.2
  have hl : Tab.upd (purgedAt c s).links (linkIndex (.consumer c)) (Link.withdrawnAll (returnedOf s c)) =
      Tab.upd s.links (linkIndex (.consumer c)) (Link.withdrawnAll (grantedTo s c)) := by
    unfold purgedAt
    rw [hp, Tab.upd_upd_same]
    refine congrArg _ (funext fun l => ?_)
    refine congrArg (fun w => { l with wire := w }) (List.foldl_append.symm.trans (foldl_withdraw_congr (fun r => ?_) _))
    rw [List.mem_append, mem_purgedOf, mem_returnedOf]
    cases purgedHere s r <;> simp
  rw [hl] at h
  exact h

theorem claimedBack_ports : Tab.upd (claimedBack c s).ports c Port.emptied = Tab.upd s.ports c Port.emptied :=
  ((claimedBack_run c hs).ports).trans
    (abandonAll_dispatched .purged (purgedOf_nodup c hs) (purgedOf_dispatched c hs)).2.1

theorem claimedBack_queue (k : ClassIdx) :
    (claimedBack c s).queue k = if s.purgeDraining k then s.queue k else grantedIn s c k ++ s.queue k := by
  have hq : (purgedAt c s).queue k = s.queue k :=
    congrArg (Tab.nth · k) (abandonAll_dispatched .purged (purgedOf_nodup c hs) (purgedOf_dispatched c hs)).1
  have hf : ((returnedOf s c).filter fun r => ((purgedAt c s).rcd r).place.cls == some k) =
      (returnedOf s c).filter fun r => (s.rcd r).place.cls == some k :=
    List.filter_congr fun r hr => by rw [returnedOf_rcd c hs hr]
  rw [(claimedBack_run c hs).queue, hq, hf, filter_returnedOf]
  split <;> rfl

theorem claimedBack_cls (k : ClassIdx) : (claimedBack c s).cls k =
    if s.purgeDraining k then (s.cls k).losing ClassRecord.lost (grantedIn s c k).length
    else (s.cls k).returning (grantedIn s c k).length := by
  rw [(claimedBack_run c hs).cls, (purgedAt_run c hs).cls, countIn_returnedOf c hs, countIn_eq_length, countIn_eq_length,
    filter_purgedOf, filter_returnedOf]
  split <;> rfl

theorem claimedBack_returns : ReturnsAll c s (claimedBack c s) where
  returned r k hr hk hz := by
    have hm : r ∈ returnedOf s c := mem_returnedOf.mpr ⟨hr, (purgedHere_of_cls hk).trans hz⟩
    have hrr := returnedOf_rcd c hs hm
    have h := (claimedBack_run c hs).returned r k hm (by rw [hrr]; exact hk)
    rwa [hrr] at h
  freed r k hr hk hz := by
    have hm : r ∈ purgedOf s c := mem_purgedOf.mpr ⟨hr, (purgedHere_of_cls hk).trans hz⟩
    have hn : r ∉ returnedOf s c := fun e => by
      have h1 := (mem_returnedOf.mp e).2
      rw [(mem_purgedOf.mp hm).2] at h1
      cases h1
    rw [(claimedBack_run c hs).others r hn, (purgedAt_run c hs).rcd, if_pos hm]
    rfl
  others r hr := by
    rw [(claimedBack_run c hs).others r fun e => hr (mem_returnedOf.mp e).1, purgedAt_rcd c hs fun e => hr (mem_purgedOf.mp e).1]
  freeList := by
    rw [claimedBack_frame c hs]
    exact (purgedAt_run c hs).freeList
  queues := claimedBack_queue c hs
  keptClasses k hz := by
    rw [claimedBack_cls c hs, if_neg (by simp [hz])]
    rfl
  emptyClasses k hg := by
    rw [claimedBack_cls c hs, hg]
    split <;> rfl
  purgedClasses k hz hg := by
    refine ⟨satUp^[(grantedIn s c k).length] (s.cls k).abandoned, satUp_iterate_toNat _ _, ?_⟩
    rw [claimedBack_cls c hs, if_pos hz]
    unfold ClassRecord.losing
    rw [if_neg (fun e => hg (List.length_eq_zero_iff.mp e)), lost_iterate]
  levels := by
    rw [claimedBack_frame c hs]
    exact purgedAt_levels c hs
  log := by
    have h := (purgedAt_run c hs).log
    rw [claimedBack_frame c hs]
    exact ⟨h.log, h.overwrites, h.nextEntry⟩
  hold := by
    have h := (purgedAt_run c hs).hold
    have hf : (claimedBack c s).freeCount = s.freeCount + (purgedOf s c).length := by
      unfold State.freeCount
      rw [claimedBack_frame c hs]
      exact (congrArg List.length (purgedAt_run c hs).freeList).trans List.length_append
    rw [hf, ← h, claimedBack_frame c hs]

/-- The notice set after the claim. -/
theorem claimedBack_notices :
    (claimedBack c s).notices.abandon = (s.notices.abandon || (grantedTo s c).any (purgedHere s)) ∧
      (claimedBack c s).notices.suspects = s.notices.suspects ∧ (claimedBack c s).notices.hold = s.notices.hold ∧
        ∀ k : ClassIdx, inSet (claimedBack c s).notices.idle k.val =
          (inSet s.notices.idle k.val || decide (s.purgeDraining k = true ∧ grantedIn s c k ≠ [] ∧
            ((claimedBack c s).cls k).state = .disabled)) := by
  have hn : (claimedBack c s).notices = (purgedAt c s).notices := by rw [claimedBack_frame c hs]
  rw [hn]
  refine ⟨?_, (purgedAt_run c hs).suspects, (purgedAt_run c hs).holdKind, fun k => ?_⟩
  · rw [(purgedAt_run c hs).abandon]
    refine congrArg _ (Bool.eq_iff_iff.mpr ?_)
    simp [purgedOf]
  · rw [(purgedAt_run c hs).idle, countIn_eq_length, filter_purgedOf, claimedBack_cls c hs]
    refine congrArg _ ?_
    by_cases hz : s.purgeDraining k = true
    · rw [if_pos hz, if_pos hz]
      exact (losingEnds_lost (s.purgeDraining_state hz) _).trans (decide_eq_decide.mpr (by simp [hz]))
    · rw [if_neg hz]
      simp [ClassRecord.losingEnds, hz]

end

end Sys2Proof.Machine
end

section
/-! # A consumer leaves service: its records, its port, its notices -/

namespace Sys2Proof.Machine

/-! ## A state that differs in its lines alone -/

/-- Two ports hold the same records. -/
structure SameLists (p q : Port) : Prop where
  tx : p.tx = q.tx
  waitingAck : p.waitingAck = q.waitingAck
  dispatched : p.dispatched = q.dispatched

/-- The state with other links and ports. -/
def State.withLines (s : State) (L : Tab Link 10) (P : Tab Port 6) : State := { s with links := L, ports := P }

section

variable {s t : State} {L : Tab Link 10} {P : Tab Port 6} {c : ConsumerIdx}

theorem Sound.withLines (hs : Sound s) (hP : ∀ d, SameLists (Tab.nth P d) (s.port d)) : Sound (s.withLines L P) where
  placed := placed_congr hs.placed (fun _ => rfl) rfl (fun _ => rfl) (fun d => (hP d).tx) fun d => (hP d).waitingAck
  counted :=
    { pendingCount := hs.counted.pendingCount
      dispatchedCount := hs.counted.dispatchedCount
      dispatched := fun d => by
        show (Tab.nth P d).dispatched = (Tab.nth P d).tx.length + (Tab.nth P d).waitingAck.length
        rw [(hP d).dispatched, (hP d).tx, (hP d).waitingAck]
        exact hs.counted.dispatched d }
  pointers := hs.pointers
  log := hs.log
  device := hs.device
  hold := hs.hold

theorem grantedTo_withLines (hP : SameLists (Tab.nth P c) (s.port c)) :
    grantedTo (s.withLines L P) c = grantedTo s c := by
  show (Tab.nth P c).waitingAck ++ (Tab.nth P c).tx.map (·.tag.index) = _
  rw [hP.tx, hP.waitingAck]
  rfl

theorem grantedIn_withLines (hP : SameLists (Tab.nth P c) (s.port c)) (k : ClassIdx) :
    grantedIn (s.withLines L P) c k = grantedIn s c k := by
  unfold grantedIn
  rw [grantedTo_withLines hP]
  rfl

theorem ReturnsAll.ofLines (hP : SameLists (Tab.nth P c) (s.port c)) (h : ReturnsAll c (s.withLines L P) t) :
    ReturnsAll c s t where
  returned r k hr := h.returned r k (by rwa [grantedTo_withLines hP])
  freed r k hr := h.freed r k (by rwa [grantedTo_withLines hP])
  others r hr := h.others r (by rwa [grantedTo_withLines hP])
  freeList := by
    rw [h.freeList, grantedTo_withLines hP]
    rfl
  queues k := by
    rw [h.queues, grantedIn_withLines hP]
    rfl
  keptClasses k hz := by
    rw [h.keptClasses k hz, grantedIn_withLines hP]
    rfl
  emptyClasses k hg := h.emptyClasses k ((grantedIn_withLines hP k).trans hg)
  purgedClasses k hz hg := by
    have := h.purgedClasses k hz (by rwa [grantedIn_withLines hP])
    rwa [grantedIn_withLines hP] at this
  levels := h.levels
  log := by
    have h' := h.log
    rw [grantedTo_withLines hP] at h'
    exact ⟨h'.log, h'.overwrites, h'.nextEntry⟩
  hold := h.hold

/-- What the claim leaves is kept by what follows it at the lines, the Notice Unit and the lease. -/
theorem ReturnsAll.toLines (h : ReturnsAll c s t) (L : Tab Link 10) (P : Tab Port 6) (n : NoticeSet) (x : Option Lease)
    (m : Nat) : ReturnsAll c s { t with links := L, ports := P, notices := n, lease := x, freeDraws := m } :=
  { returned := h.returned, freed := h.freed, others := h.others, freeList := h.freeList, queues := h.queues
    keptClasses := h.keptClasses, emptyClasses := h.emptyClasses, purgedClasses := h.purgedClasses
    levels := h.levels, log := ⟨h.log.log, h.log.overwrites, h.log.nextEntry⟩, hold := h.hold }

end

/-! ## A consumer leaves service -/

/-- The port of a consumer that leaves service: its records are claimed back and its slots emptied. -/
def vacated (c : ConsumerIdx) (g : Port → Port) (s : State) : State :=
  (returnAll c (s.modPort c g)).modPort c fun p => { p with responseSlot := none, noticeSlot := none }

/-- The port that is left. -/
def Port.vacant (p : Port) : Port := { p.emptied with responseSlot := none, noticeSlot := none }

section

variable {s : State} {c : ConsumerIdx} {g : Port → Port}

theorem sameLists_upd (hg : ∀ p, SameLists (g p) p) (d : ConsumerIdx) :
    SameLists (Tab.nth (Tab.upd s.ports c g) d) (s.port d) := by
  rw [Tab.nth_upd]
  split
  · exact hg _
  · exact ⟨rfl, rfl, rfl⟩

theorem modPort_eq_withLines (c : ConsumerIdx) (g : Port → Port) (s : State) :
    s.modPort c g = s.withLines s.links (Tab.upd s.ports c g) := rfl

variable (hs : Sound s) (hg : ∀ p, SameLists (g p) p)

include hs hg

theorem sound_modPort : Sound (s.modPort c g) := by
  rw [modPort_eq_withLines]
  exact hs.withLines (sameLists_upd hg)

theorem claimedBack_modPort_returns : ReturnsAll c s (claimedBack c (s.modPort c g)) := by
  have h := claimedBack_returns c (sound_modPort (c := c) hs hg)
  rw [modPort_eq_withLines] at h ⊢
  exact h.ofLines (sameLists_upd hg c)

theorem vacated_ports : (vacated c g s).ports = Tab.upd s.ports c fun p => (g p).vacant := by
  have h := claimedBack_ports c (sound_modPort (c := c) hs hg)
  have e : (vacated c g s).ports =
      Tab.upd (Tab.upd (claimedBack c (s.modPort c g)).ports c Port.emptied) c
        fun p => { p with responseSlot := none, noticeSlot := none } := rfl
  rw [e, h]
  show Tab.upd (Tab.upd (Tab.upd s.ports c g) c Port.emptied) c _ = _
  rw [Tab.upd_upd_same, Tab.upd_upd_same]
  rfl

theorem vacated_eq : vacated c g s =
    { claimedBack c (s.modPort c g) with
      links := Tab.upd s.links (linkIndex (.consumer c)) (Link.withdrawnAll (grantedTo s c))
      ports := Tab.upd s.ports c fun p => (g p).vacant } := by
  have hl : (claimedBack c (s.modPort c g)).links =
      Tab.upd s.links (linkIndex (.consumer c)) (Link.withdrawnAll (grantedTo s c)) := by
    rw [claimedBack_frame c (sound_modPort hs hg), modPort_eq_withLines, grantedTo_withLines (sameLists_upd hg c)]
    rfl
  rw [← vacated_ports hs hg, ← hl]
  rfl

/-- The notice set that is left, in the words of `ReturnNotices`. -/
theorem claimedBack_modPort_notices {t : State} (ht : ∀ k, t.cls k = (claimedBack c (s.modPort c g)).cls k) :
    (claimedBack c (s.modPort c g)).notices.abandon = (s.notices.abandon || (grantedTo s c).any (purgedHere s)) ∧
      (claimedBack c (s.modPort c g)).notices.suspects = s.notices.suspects ∧
        (claimedBack c (s.modPort c g)).notices.hold = s.notices.hold ∧
          ∀ k : ClassIdx, inSet (claimedBack c (s.modPort c g)).notices.idle k.val =
            (inSet s.notices.idle k.val ||
              decide (s.purgeDraining k = true ∧ grantedIn s c k ≠ [] ∧ (t.cls k).state = .disabled)) := by
  have h := claimedBack_notices c (sound_modPort (c := c) hs hg)
  simp only [ht]
  rw [modPort_eq_withLines] at h ⊢
  rw [grantedTo_withLines (sameLists_upd hg c)] at h
  simp only [grantedIn_withLines (sameLists_upd hg c)] at h
  exact h

end

end Sys2Proof.Machine
end

section
/-! # Loss of a consumer link: O12 -/

namespace Sys2Proof.Machine

section

variable {s : State} {c : ConsumerIdx}

/-- A port that a link loss has taken out of service, its records still listed (R93). -/
def Port.detached (p : Port) : Port := { p with state := p.state.detach }

theorem sameLists_detached (p : Port) : SameLists p.detached p := ⟨rfl, rfl, rfl⟩

theorem freeLeaseOf_frame (c : ConsumerIdx) (s : State) :
    freeLeaseOf c s = { s with lease := (freeLeaseOf c s).lease } := by
  unfold freeLeaseOf
  split <;> rfl

/-- The state after a consumer link has left UP, before the Notice Unit tests. -/
def lost (c : ConsumerIdx) (s : State) : State :=
  freeLeaseOf c ((vacated c Port.detached s).modLink (.consumer c) fun x => { x with wire := .quiet })

theorem linkLeavesUp_consumer (c : ConsumerIdx) (s : State) :
    linkLeavesUp (.consumer c) s = placeNotice (lost c s) := rfl

theorem lost_eq (hs : Sound s) : lost c s =
    { claimedBack c (s.modPort c Port.detached) with
      links := (lost c s).links, ports := Tab.upd s.ports c fun p => p.detached.vacant, lease := (lost c s).lease } := by
  have h := freeLeaseOf_frame c ((vacated c Port.detached s).modLink (.consumer c) fun x => { x with wire := .quiet })
  unfold lost
  rw [h, vacated_eq hs sameLists_detached]
  rfl

theorem linkLeavesUp_eq (hs : Sound s) : linkLeavesUp (.consumer c) s =
    { claimedBack c (s.modPort c Port.detached) with
      links := (linkLeavesUp (.consumer c) s).links, ports := (linkLeavesUp (.consumer c) s).ports
      notices := (linkLeavesUp (.consumer c) s).notices, lease := (linkLeavesUp (.consumer c) s).lease
      freeDraws := (linkLeavesUp (.consumer c) s).freeDraws } := by
  rw [linkLeavesUp_consumer]
  have h := placeNotice_frame (lost c s)
  generalize placeNotice (lost c s) = t at h ⊢
  rw [h, lost_eq hs]

theorem linkLeavesUp_returns (hs : Sound s) : ReturnsAll c s (linkLeavesUp (.consumer c) s) := by
  rw [linkLeavesUp_eq hs]
  exact (claimedBack_modPort_returns hs sameLists_detached).toLines _ _ _ _ _

theorem linkLeavesUp_notices (hs : Sound s) :
    ReturnNotices c s
      { s.modPort c (fun p => { p with noticeSlot := none }) with lease := (linkLeavesUp (.consumer c) s).lease }
      (linkLeavesUp (.consumer c) s) := by
  obtain ⟨ha, hsu, hh, hi⟩ := claimedBack_modPort_notices (c := c) (t := linkLeavesUp (.consumer c) s) hs
    sameLists_detached fun k => by
      rw [linkLeavesUp_eq hs]
      rfl
  have hn : (lost c s).notices = (claimedBack c (s.modPort c Port.detached)).notices := by rw [lost_eq hs]
  refine ⟨(lost c s).notices, hn ▸ ha, hn ▸ hsu, hn ▸ hh, hn ▸ hi, ?_⟩
  refine placeNotice_test _ (lost c s) ?_ fun d => ?_
  · show (lost c s).lease = (placeNotice (lost c s)).lease
    rw [placeNotice_frame]
  · rw [lost_eq hs]
    show (Tab.nth (Tab.upd s.ports c _) d).noticeSlot = (Tab.nth (Tab.upd s.ports c _) d).noticeSlot
    rw [Tab.nth_upd, Tab.nth_upd]
    split <;> rfl

/-- A loss of signal and a fourth bad cell in a row: the link goes DOWN and leaves UP, and may go on to ALIGNING. -/
theorem exec_leavesUp {i : Instr} {l : LinkId} (hup : (s.link l).state = .up)
    (hi : i = .lossOfSignal l ∨ (i = .badCell l ∧ (s.link l).badRun = 3)) :
    ∃ f, exec i s = .next (linkLeavesUp l (goDown l (s.modLink l f))) ∨
      exec i s = .next (beginAligning l (linkLeavesUp l (goDown l (s.modLink l f)))) := by
  rcases hi with rfl | ⟨rfl, hbad⟩
  · refine ⟨fun x => { x with signal := false }, Or.inl ?_⟩
    show execLossOfSignal l s = _
    unfold execLossOfSignal
    rw [hup]
  · show ∃ f, execBadCell l s = _ ∨ execBadCell l s = _
    unfold execBadCell badCellUp
    rw [hup, hbad]
    cases (s.link l).signal with
    | false => exact ⟨_, Or.inl rfl⟩
    | true => exact ⟨_, Or.inr rfl⟩

theorem goDown_modLink_withLines (l : LinkId) (f : Link → Link) (s : State) :
    ∃ L, goDown l (s.modLink l f) = s.withLines L s.ports := ⟨_, rfl⟩

theorem beginAligning_eq (l : LinkId) (t : State) : beginAligning l t =
    { t with links := (beginAligning l t).links, freeDraws := t.freeDraws + 1 } := rfl

/-- Settles O12: what differs between the two commands is at the link alone. -/
theorem linkLossReturnsRecordsInGrantOrder : Obligations.LinkLossReturnsRecordsInGrantOrder := by
  intro c s hs hup i hi
  obtain ⟨f, hi⟩ := exec_leavesUp hup hi
  obtain ⟨L, hL⟩ := goDown_modLink_withLines (.consumer c) f s
  rw [hL] at hi
  have hD := hs.withLines (L := L) (P := s.ports) fun _ => ⟨rfl, rfl, rfl⟩
  have hr := (linkLeavesUp_returns (c := c) hD).ofLines ⟨rfl, rfl, rfl⟩
  have hn := linkLeavesUp_notices (c := c) hD
  generalize linkLeavesUp (.consumer c) (s.withLines L s.ports) = t at hi hr hn
  rcases hi with hi | hi
  · exact ⟨t, hi, hr, hn⟩
  · refine ⟨_, hi, ?_, hn⟩
    rw [beginAligning_eq]
    exact hr.toLines _ _ _ _ _

end

end Sys2Proof.Machine
end

section
/-! # CONSUMER_DISABLE: O46 -/

namespace Sys2Proof.Machine

/-! ## Requests of the holder, carried out -/

section

variable {s v : State} {c n : ConsumerIdx} {seq : Byte} {st : Status} {d : Page}

/-- A request of the holder, by the state that its operation answers with: there the sender's link has heard the cell. -/
theorem request_holder_of {op : State → Answer} (hc : HolderAsks s c seq)
    (hv : (v.link (.consumer c)).heard = v.link (.consumer c))
    (h : op (heardFrom c s) = ⟨v, some (st, d)⟩) : request c seq (holderOnly c op) s = replied c seq st d v := by
  refine request_holder hc (h.trans ?_)
  have he : heardFrom c v = v := by
    unfold heardFrom State.modLink
    rw [Tab.upd_eq_self _ _ _ hv]
  rw [he]

theorem replied_link (l : LinkId) : (replied c seq st d v).link l =
    if l = .consumer c then (v.link l).heard else v.link l := State.modLink_link v _ _ l

theorem replied_port (m : ConsumerIdx) : (replied c seq st d v).port m =
    if m = c then { v.port m with responseSlot := some ⟨seq, st, d⟩, replay := some ⟨seq, st, d⟩ } else v.port m :=
  Tab.nth_upd v.ports c m _

theorem replied_noticeSlot (m : ConsumerIdx) :
    ((replied c seq st d v).port m).noticeSlot = (v.port m).noticeSlot := by
  rw [replied_port]
  split <;> rfl

/-- What an answer to the holder leaves, in full. -/
theorem replied_of_holds (h : v.holds c = true) : replied c seq st d v =
    { v with
      links := (replied c seq st d v).links, ports := (replied c seq st d v).ports
      lease := some ⟨c, v.device.leasePeriod.val * 10000⟩ } := by
  unfold replied
  rw [if_pos h]

/-- The notice slot of a consumer that does not hold the lease is left as it was. -/
theorem NoticeTest.slot_of_not_holder {N : NoticeSet} (h : NoticeTest N s v) (hn : s.holds n = false) :
    (v.port n).noticeSlot = (s.port n).noticeSlot := by
  cases hd : noticeDue N s with
  | true => rw [(h.1 hd).2, hn, if_neg Bool.false_ne_true]
  | false => exact (h.2 hd).2 n

theorem holds_congr {s u : State} (h : u.lease = s.lease) (c : ConsumerIdx) : u.holds c = s.holds c := by
  unfold State.holds
  rw [h]

/-- Another consumer does not hold the lease. -/
theorem holds_other (h : s.holds c = true) (hn : n ≠ c) : s.holds n = false := by
  unfold State.holds at h ⊢
  cases hl : s.lease with
  | none => rfl
  | some x =>
    rw [hl] at h
    have hx : x.holder = c := by simpa using h
    simp [hx, Ne.symm hn]

end

/-! ## A consumer is disabled -/

/-- A port that is taken out of service, its records still listed (R94). -/
def Port.switchedOff (p : Port) : Port := { p with state := .off }

theorem sameLists_switchedOff (p : Port) : SameLists p.switchedOff p := ⟨rfl, rfl, rfl⟩

/-- The state that CONSUMER_DISABLE answers with (R94). -/
def disabled (n : ConsumerIdx) (s : State) : State := placeNotice (vacated n Port.switchedOff s)

section

variable {s : State} {n : ConsumerIdx} (hs : Sound s)

include hs

theorem disabled_eq : disabled n s =
    { claimedBack n (s.modPort n Port.switchedOff) with
      links := Tab.upd s.links (linkIndex (.consumer n)) (Link.withdrawnAll (grantedTo s n))
      ports := (disabled n s).ports, notices := (disabled n s).notices } := by
  have h := placeNotice_frame (vacated n Port.switchedOff s)
  unfold disabled
  generalize placeNotice (vacated n Port.switchedOff s) = t at h ⊢
  rw [h, vacated_eq hs sameLists_switchedOff]

theorem disabled_frame : disabled n s =
    { s with
      links := (disabled n s).links, levels := (disabled n s).levels, records := (disabled n s).records
      freeList := (disabled n s).freeList, queues := (disabled n s).queues, classes := (disabled n s).classes
      ports := (disabled n s).ports, hold := (disabled n s).hold, notices := (disabled n s).notices
      log := (disabled n s).log, overwrites := (disabled n s).overwrites, nextEntry := (disabled n s).nextEntry } := by
  have hA := sound_modPort (c := n) hs sameLists_switchedOff
  have h1 := disabled_eq (n := n) hs
  have h2 := claimedBack_frame n hA
  have h3 := (purgedAt_run n hA).frame
  generalize disabled n s = t at h1 ⊢
  generalize claimedBack n (s.modPort n Port.switchedOff) = u at h1 h2
  generalize purgedAt n (s.modPort n Port.switchedOff) = w at h2 h3
  rw [h1, h2, h3]
  rfl

theorem disabled_link (l : LinkId) : (disabled n s).link l =
    if l = .consumer n then (s.link l).withdrawnAll (grantedTo s n) else s.link l := by
  rw [disabled_eq hs]
  exact State.modLink_link s (.consumer n) (Link.withdrawnAll (grantedTo s n)) l

theorem vacated_port (m : ConsumerIdx) : (vacated n Port.switchedOff s).port m =
    if m = n then (s.port m).switchedOff.vacant else s.port m := by
  unfold State.port
  rw [vacated_ports hs sameLists_switchedOff]
  exact Tab.nth_upd _ _ _ _

theorem disabled_port (m : ConsumerIdx) : (disabled n s).port m =
    { (if m = n then (s.port m).switchedOff.vacant else s.port m) with
      noticeSlot := ((disabled n s).port m).noticeSlot } := placeNotice_port_of (vacated_port hs m)

theorem disabled_returns : ReturnsAll n s (disabled n s) := by
  rw [disabled_eq hs]
  exact (claimedBack_modPort_returns hs sameLists_switchedOff).toLines _ _ _ _ _

theorem disabled_notices :
    ReturnNotices n s (s.modPort n fun p => { p with noticeSlot := none }) (disabled n s) := by
  obtain ⟨ha, hsu, hh, hi⟩ := claimedBack_modPort_notices (c := n) (t := disabled n s) hs sameLists_switchedOff fun k => by
    rw [disabled_eq hs]
    rfl
  have hv := vacated_eq (c := n) hs sameLists_switchedOff
  have hn : (vacated n Port.switchedOff s).notices = (claimedBack n (s.modPort n Port.switchedOff)).notices := by rw [hv]
  refine ⟨(vacated n Port.switchedOff s).notices, hn ▸ ha, hn ▸ hsu, hn ▸ hh, hn ▸ hi, ?_⟩
  refine placeNotice_test _ (vacated n Port.switchedOff s) ?_ fun d => ?_
  · have hl : (disabled n s).lease = s.lease := by rw [disabled_frame hs]
    have he : (disabled n s).lease = (vacated n Port.switchedOff s).lease := by
      unfold disabled
      rw [placeNotice_frame]
    exact he.symm.trans hl
  · rw [vacated_port hs, State.modPort_port]
    split <;> rfl

end

/-! ## The request -/

section

variable {s : State} {c : ConsumerIdx} {seq : Byte} {index : Half}

theorem exec_consumerDisable (hc : HolderAsks s c seq) {v : State} {st : Status} {d : Page}
    (hv : (v.link (.consumer c)).heard = v.link (.consumer c))
    (h : opConsumerDisable index (heardFrom c s) = ⟨v, some (st, d)⟩) :
    exec (.consumerDisable c seq index) s = .next (replied c seq st d v) :=
  congrArg Host.Outcome.next (request_holder_of hc hv h)

theorem heardFrom_link (c : ConsumerIdx) (s : State) (l : LinkId) :
    (heardFrom c s).link l = if l = .consumer c then (s.link l).heard else s.link l := State.modLink_link s _ _ l

theorem opConsumerDisable_eq {n : ConsumerIdx} (hn : index.toNat = n.val) (u : State) :
    opConsumerDisable index u = disableConsumer n u := by
  have hlt : index.toNat < 6 := by omega
  unfold opConsumerDisable
  rw [dif_pos hlt]
  exact congrArg (disableConsumer · u) (Fin.ext hn)

/-- The data of a CONSUMER_DISABLE: the consumer is OFF, so many of its records returned and so many purged (R173). -/
def consumerDisableData (n : ConsumerIdx) (s : State) : Page :=
  { Page.zero with
    o1 := BitVec.ofNat 8 ((grantedTo s n).filter fun r => !purgedHere s r).length
    o2 := BitVec.ofNat 8 ((grantedTo s n).filter (purgedHere s)).length }

theorem disableConsumer_inService {n : ConsumerIdx} {u : State} (h : (u.port n).state ≠ .off) :
    disableConsumer n u = ⟨disabled n u, some (.ok, consumerDisableData n u)⟩ := if_neg h

/-- Settles O46: the errors, a consumer that is OFF already, and one in service. -/
theorem consumerDisableOutcomes : Obligations.ConsumerDisableOutcomes := by
  intro c seq index s hc hs
  refine ⟨fun hi => ?_, fun n hn => ⟨fun hoff => ?_, fun hon => ?_⟩⟩
  · refine congrArg Host.Outcome.next (request_holder_denied hc ?_)
    exact dif_neg (Nat.not_lt.mpr hi)
  · refine congrArg Host.Outcome.next (request_holder (u := s) hc ?_)
    rw [opConsumerDisable_eq hn]
    exact if_pos hoff
  · have hD : Sound (heardFrom c s) := hs.withLines (P := s.ports) fun _ => ⟨rfl, rfl, rfl⟩
    have hlink : ∀ l, (disabled n (heardFrom c s)).link l =
        { (if l = .consumer c then (s.link l).heard else s.link l) with
          wire := if l = .consumer n then wireWithdrawn s n else (s.link l).wire } := fun l => by
      rw [disabled_link hD, heardFrom_link]
      by_cases h1 : l = .consumer n
      · subst h1
        rw [if_pos rfl, if_pos rfl]
        split <;> rfl
      · rw [if_neg h1, if_neg h1]
        split <;> rfl
    have hheard : ((disabled n (heardFrom c s)).link (.consumer c)).heard =
        (disabled n (heardFrom c s)).link (.consumer c) := by
      rw [hlink, if_pos rfl]
      rfl
    have hexec := exec_consumerDisable hc hheard
      ((opConsumerDisable_eq hn _).trans (disableConsumer_inService (u := heardFrom c s) hon))
    have hret := (disabled_returns (n := n) hD).ofLines (s := s) (P := s.ports) ⟨rfl, rfl, rfl⟩
    have hnot := disabled_notices (n := n) hD
    have hport := disabled_port (n := n) hD
    have hframe := disabled_frame (n := n) hD
    generalize disabled n (heardFrom c s) = v at *
    have hlease : v.lease = s.lease := by rw [hframe]; rfl
    have hdev : v.device = s.device := by rw [hframe]; rfl
    have hholds : v.holds c = true := (holds_congr hlease c).trans hc.holder
    have hrep := replied_of_holds (seq := seq) (st := .ok) (d := consumerDisableData n (heardFrom c s)) hholds
    refine ⟨_, _, hexec, rfl, ?_, fun l => ?_, fun m => ?_, fun hnc => ?_, ?_, ?_⟩
    · generalize replied c seq .ok (consumerDisableData n (heardFrom c s)) v = t at hrep ⊢
      rw [hrep, hdev, hframe]
      rfl
    · rw [replied_link, hlink]
      split <;> rfl
    · have hm := hport m
      rw [replied_noticeSlot, replied_port]
      generalize v.port m = q at hm ⊢
      rw [hm]
      by_cases h2 : m = n
      · simp only [if_pos h2]
        split <;> rfl
      · simp only [if_neg h2]
        split <;> rfl
    · rw [replied_noticeSlot]
      obtain ⟨N, -, -, -, -, hT⟩ := hnot
      refine (hT.slot_of_not_holder (holds_other hc.holder hnc)).trans ?_
      rw [State.modPort_port, if_pos rfl]
    · rw [hrep]
      exact hret.toLines _ _ _ _ _
    · obtain ⟨N, ha, hsu, hh, hi, hT⟩ := hnot
      refine ⟨N, ha, hsu, hh, hi, ?_⟩
      unfold NoticeTest at hT ⊢
      simp only [replied_noticeSlot]
      exact hT

end

end Sys2Proof.Machine
end

section
/-! # CLASS_DISABLE with purge: O45 -/

namespace Sys2Proof.Machine

/-! ## The drain rule, read -/

theorem drainEnds_iff {x : ClassRecord} :
    x.drainEnds = true ↔ x.state = .draining ∧ x.pendingCount + x.dispatchedCount = 0 := by
  unfold ClassRecord.drainEnds
  rw [Bool.and_eq_true, beq_iff_eq, decide_eq_true_iff]

theorem drained_of_ends {x : ClassRecord} (h : x.drainEnds = true) : x.drained = { x with state := .disabled, purge := false } :=
  if_pos (drainEnds_iff.mp h)

/-- After the drain rule no drain is due. -/
theorem drained_drainEnds (x : ClassRecord) : x.drained.drainEnds = false := by
  cases h : x.drainEnds with
  | true =>
    rw [drained_of_ends h]
    rfl
  | false => rw [drained_of_not_ends h, h]

theorem drained_drained (x : ClassRecord) : x.drained.drained = x.drained := drained_of_not_ends (drained_drainEnds x)

theorem drainCheck_cls (k j : ClassIdx) (u : State) :
    (drainCheck k u).cls j = if j = k then (u.cls j).drained else u.cls j := by
  unfold drainCheck
  by_cases h : (u.cls k).state = .draining ∧ u.holding k = 0
  · rw [if_pos h]
    refine (State.modClass_cls u k _ j).trans ?_
    by_cases hj : j = k
    · subst hj
      rw [if_pos rfl, if_pos rfl, drained_of_ends (drainEnds_iff.mpr h)]
    · rw [if_neg hj, if_neg hj]
  · rw [if_neg h]
    split
    · rename_i hj
      subst hj
      exact (if_neg h).symm
    · rfl

theorem drainCheck_notices (k : ClassIdx) (u : State) : (drainCheck k u).notices =
    { u.notices with idle := if (u.cls k).drainEnds then addTo u.notices.idle k.val else u.notices.idle } := by
  unfold drainCheck
  by_cases h : (u.cls k).state = .draining ∧ u.holding k = 0
  · rw [if_pos h, drainEnds_iff.mpr h]
    rfl
  · rw [if_neg h, Bool.eq_false_iff.mpr fun e => h (drainEnds_iff.mp e)]
    rfl

theorem inSet_ite_addTo {w : Nat} (b : Bool) (m : BitVec w) (i j : Fin w) :
    inSet (if b then addTo m i.val else m) j.val = (inSet m j.val || (decide (j = i) && b)) := by
  cases b with
  | false => simp
  | true => simp [inSet_addTo, Fin.ext_iff]

/-- A drain that does not end in a run of losses may end right after it. -/
theorem losingEnds_or_drainEnds {g : ClassRecord → ClassRecord} {n : Nat} {x : ClassRecord} :
    (x.losingEnds g n || (x.losing g n).drainEnds) = (g^[n] x).drainEnds := by
  unfold ClassRecord.losingEnds ClassRecord.losing
  by_cases hn : n = 0
  · simp [hn]
  · simp [hn, drained_drainEnds]

/-- A set is known by its members. -/
theorem inSet_ext {w : Nat} {m n : BitVec w} (h : ∀ j : Fin w, inSet m j.val = inSet n j.val) : m = n :=
  BitVec.eq_of_getLsbD_eq fun i hi => h ⟨i, hi⟩

/-- The class record that a purge leaves (R72, R73, R76). -/
def ClassRecord.purged (x : ClassRecord) (ends : Bool) (abandoned : Counter) : ClassRecord :=
  { x with pendingCount := 0, state := if ends then .disabled else .draining, purge := !ends, abandoned := abandoned }

theorem drained_purged (x : ClassRecord) (a : Counter) :
    ({ x with state := .draining, purge := true, pendingCount := 0, abandoned := a } : ClassRecord).drained =
        x.purged (decide (x.dispatchedCount = 0)) a ∧
      ({ x with state := .draining, purge := true, pendingCount := 0, abandoned := a } : ClassRecord).drainEnds =
        decide (x.dispatchedCount = 0) := by
  have he : ({ x with state := .draining, purge := true, pendingCount := 0, abandoned := a } : ClassRecord).drainEnds =
      decide (x.dispatchedCount = 0) := by
    rw [Bool.eq_iff_iff, drainEnds_iff, decide_eq_true_iff]
    simp
  refine ⟨?_, he⟩
  cases h : decide (x.dispatchedCount = 0) with
  | true => exact drained_of_ends (he.trans h)
  | false => exact drained_of_not_ends (he.trans h)

/-! ## A class is closed with purge -/

/-- The class is DRAINING with the purge flag set (R72). -/
def closing (k : ClassIdx) (s : State) : State := s.modClass k fun x => { x with state := .draining, purge := true }

/-- Its queue has been abandoned, before the drain rule. -/
def purgedQueue (k : ClassIdx) (s : State) : State := abandonAll (s.queue k) .purged (closing k s)

theorem closeClass_purge (k : ClassIdx) (s : State) : closeClass k true s = drainCheck k (purgedQueue k s) := rfl

section

variable {s : State} {k : ClassIdx} (hs : Sound s)

theorem closing_cls (j : ClassIdx) : (closing k s).cls j =
    if j = k then { s.cls j with state := .draining, purge := true } else s.cls j := State.modClass_cls s k _ j

include hs

theorem closing_purgeable : Purgeable (closing k s) where
  placed := placed_congr hs.placed (fun _ => rfl) rfl (fun _ => rfl) (fun _ => rfl) fun _ => rfl
  counted := by
    refine counted_congr hs.counted (fun _ => rfl) (fun _ => rfl) (fun j => ?_) (fun j => ?_) fun _ => rfl
    all_goals
      rw [closing_cls]
      split <;> rfl
  log := hs.log
  device := hs.device
  hold := hs.hold

theorem queue_pending : ∀ r ∈ s.queue k, ((closing k s).rcd r).place = .pending k := fun r hr =>
  (hs.placed.pending r k).mpr hr

theorem purgedQueue_run : PurgeRun ClassRecord.purgedOne (s.queue k) (closing k s) (purgedQueue k s) :=
  abandonAll_run (closing_purgeable hs) (hs.placed.queueOnce k) fun r hr =>
    ⟨k, queue_pending hs r hr ▸ losesBy_pending k⟩

theorem countIn_queue (j : ClassIdx) : countIn (closing k s) (s.queue k) j = if j = k then (s.queue k).length else 0 := by
  unfold countIn
  by_cases hj : j = k
  · rw [if_pos hj, List.countP_eq_length]
    intro r hr
    rw [queue_pending hs r hr, hj]
    exact beq_self_eq_true _
  · rw [if_neg hj, List.countP_eq_zero]
    intro r hr
    rw [queue_pending hs r hr]
    simp [Place.cls, Ne.symm hj]

/-- The class record after all its pending records have been abandoned, before the drain rule. -/
theorem purged_iterate : ClassRecord.purgedOne^[(s.queue k).length] ((closing k s).cls k) =
    { s.cls k with
      state := .draining, purge := true, pendingCount := 0
      abandoned := satUp^[(s.queue k).length] (s.cls k).abandoned } := by
  rw [purgedOne_iterate, closing_cls, if_pos rfl]
  dsimp only
  rw [hs.counted.pendingCount, Nat.sub_self]

theorem closeClass_cls (j : ClassIdx) : (closeClass k true s).cls j =
    if j = k then (ClassRecord.purgedOne^[(s.queue k).length] ((closing k s).cls k)).drained else s.cls j := by
  rw [closeClass_purge, drainCheck_cls, (purgedQueue_run hs).cls, countIn_queue hs]
  by_cases hj : j = k
  · subst hj
    rw [if_pos rfl, if_pos rfl, if_pos rfl]
    unfold ClassRecord.losing
    by_cases hn : (s.queue j).length = 0
    · rw [if_pos hn, hn]
      rfl
    · rw [if_neg hn, drained_drained]
  · rw [if_neg hj, if_neg hj, if_neg hj]
    exact closing_cls j |>.trans (if_neg hj)

theorem closeClass_notices : (closeClass k true s).notices =
    { s.notices with
      abandon := s.notices.abandon || !(s.queue k).isEmpty
      idle := if (ClassRecord.purgedOne^[(s.queue k).length] ((closing k s).cls k)).drainEnds
        then addTo s.notices.idle k.val else s.notices.idle } := by
  have hr := purgedQueue_run (k := k) hs
  have hidle : (if ((purgedQueue k s).cls k).drainEnds then addTo (purgedQueue k s).notices.idle k.val
        else (purgedQueue k s).notices.idle) =
      if (ClassRecord.purgedOne^[(s.queue k).length] ((closing k s).cls k)).drainEnds
        then addTo s.notices.idle k.val else s.notices.idle := by
    refine inSet_ext fun j => ?_
    rw [inSet_ite_addTo, inSet_ite_addTo, hr.idle, hr.cls, countIn_queue hs, countIn_queue hs, if_pos rfl]
    by_cases hj : j = k
    · subst hj
      rw [if_pos rfl, decide_eq_true rfl, Bool.true_and, Bool.true_and, Bool.or_assoc, losingEnds_or_drainEnds]
      rfl
    · rw [if_neg hj, decide_eq_false hj, Bool.false_and, Bool.false_and, Bool.or_false, Bool.or_false]
      exact Bool.or_false _
  rw [closeClass_purge, drainCheck_notices, hidle, NoticeSet.mk.injEq]
  exact ⟨hr.abandon, hr.suspects, rfl, hr.holdKind⟩

theorem closeClass_cls_self : (closeClass k true s).cls k =
    (s.cls k).purged (decide ((s.cls k).dispatchedCount = 0)) (satUp^[(s.queue k).length] (s.cls k).abandoned) := by
  rw [closeClass_cls hs, if_pos rfl, purged_iterate hs]
  exact (drained_purged _ _).1

theorem closeClass_raises : (closeClass k true s).notices =
    { s.notices with
      abandon := s.notices.abandon || !(s.queue k).isEmpty
      idle := if decide ((s.cls k).dispatchedCount = 0) then addTo s.notices.idle k.val else s.notices.idle } := by
  rw [closeClass_notices hs, purged_iterate hs, (drained_purged _ _).2]

/-- What the purge leaves everywhere else. -/
theorem closeClass_frame : closeClass k true s =
    { s with
      levels := (closeClass k true s).levels, records := (closeClass k true s).records
      freeList := s.freeList ++ s.queue k, queues := (closeClass k true s).queues
      classes := (closeClass k true s).classes, notices := (closeClass k true s).notices
      log := (closeClass k true s).log, overwrites := (closeClass k true s).overwrites
      nextEntry := (closeClass k true s).nextEntry, hold := holdNext s (s.freeCount + (s.queue k).length) } := by
  have hr := purgedQueue_run (k := k) hs
  have hp := abandonAll_pending .purged (hs.placed.queueOnce k) (queue_pending hs)
  have hd := drainCheck_frame k (purgedQueue k s)
  have hf : (purgedQueue k s).freeList = s.freeList ++ s.queue k := hr.freeList
  have hh : (purgedQueue k s).hold = holdNext s (s.freeCount + (s.queue k).length) := hr.hold
  have hP : (purgedQueue k s).ports = s.ports := hp.2.1
  have hL : (purgedQueue k s).links = s.links := hp.2.2
  rw [closeClass_purge, ← hf, ← hh]
  generalize drainCheck k (purgedQueue k s) = t at hd ⊢
  rw [hd]
  have hF := hr.frame
  generalize purgedQueue k s = u at hF hP hL ⊢
  rw [hF, hP, hL]
  rfl

theorem closeClass_rcd (q : RecIdx) :
    (closeClass k true s).rcd q = if q ∈ s.queue k then (s.rcd q).freed else s.rcd q := by
  rw [closeClass_purge, drainCheck_frame]
  exact (purgedQueue_run hs).rcd q

theorem closeClass_level (b : Addr) : (closeClass k true s).level b =
    if ∃ r ∈ s.queue k, b = (s.rcd r).addr ∧ (s.level b).pendingRec = some r
    then { s.level b with pendingRec := none } else s.level b := by
  rw [closeClass_purge, drainCheck_frame]
  exact (purgedQueue_run hs).level b

theorem closeClass_log : LogTakesPurged (s.queue k) s (closeClass k true s) := by
  have h := (purgedQueue_run (k := k) hs).log
  rw [closeClass_purge, drainCheck_frame]
  exact ⟨h.log, h.overwrites, h.nextEntry⟩

theorem closeClass_queue (j : ClassIdx) : (closeClass k true s).queue j = if j = k then [] else s.queue j := by
  have he : (closeClass k true s).queue j = (purgedQueue k s).queue j := by
    rw [closeClass_purge, drainCheck_frame]
    rfl
  rw [he]
  by_cases hj : j = k
  · subst hj
    have hp : Placed (purgedQueue j s) := abandonAll_placed _ _ (closing_purgeable hs).placed
    rw [if_pos rfl, List.eq_nil_iff_forall_not_mem]
    intro r hr
    have hpl := (hp.pending r j).mpr hr
    rw [(purgedQueue_run hs).rcd] at hpl
    by_cases hm : r ∈ s.queue j
    · rw [if_pos hm] at hpl
      cases hpl
    · rw [if_neg hm] at hpl
      exact hm ((hs.placed.pending r j).mp hpl)
  · rw [if_neg hj]
    exact (abandonAll_pending .purged (hs.placed.queueOnce k) (queue_pending hs)).1 j hj

end

/-! ## The request -/

section

variable {s : State} {c : Fin 6} {seq : Byte} {index : Half} {k : ClassIdx}

theorem opClassDisable_purge (hk : index.toNat = k.val) {u : State}
    (hu : (u.cls k).state = .enabled ∨ (u.cls k).state = .draining) :
    opClassDisable index 1 u =
      ⟨placeNotice (closeClass k true u), some (.ok, disableData k (u.queue k).length (closeClass k true u))⟩ := by
  have hlt : index.toNat < 32 := by omega
  have hd : opClassDisable index 1 u = disableClass k true u := by
    unfold opClassDisable
    rw [dif_pos hlt]
    exact congrArg (disableClass · true u) (Fin.ext hk)
  rw [hd]
  unfold disableClass
  rcases hu with h | h <;> rw [h] <;> rfl

theorem disableData_purged (n : Nat) {w : State} {x : ClassRecord} {ends : Bool} {a : Counter}
    (h : w.cls k = x.purged ends a) : disableData k n w =
      { Page.zero with
        o0 := if ends then 0 else 2, o1 := hiOctet (BitVec.ofNat 16 n), o2 := loOctet (BitVec.ofNat 16 n) } := by
  unfold disableData
  rw [h]
  cases ends <;> rfl

/-- An answer to the holder after the Notice Unit's test changes the links, the ports, the notice set and the lease. -/
theorem replied_placeNotice {w : State} (h : w.holds c = true) (st : Status) (d : Page) :
    replied c seq st d (placeNotice w) =
      { w with
        links := (replied c seq st d (placeNotice w)).links, ports := (replied c seq st d (placeNotice w)).ports
        notices := (placeNotice w).notices, lease := some ⟨c, w.device.leasePeriod.val * 10000⟩ } := by
  have hv : (placeNotice w).holds c = true := (holds_congr (by rw [placeNotice_frame]) c).trans h
  have hr := replied_of_holds (seq := seq) (st := st) (d := d) hv
  generalize replied c seq st d (placeNotice w) = t at hr ⊢
  have hf := placeNotice_frame w
  generalize placeNotice w = v at hr hf ⊢
  rw [hr, hf]

/-- Settles O45, from what the purge of a class queue leaves. -/
theorem purgeEmptiesClassQueue : Obligations.PurgeEmptiesClassQueue := by
  intro c seq index k ends s hc hs hk hst hends
  have hD : Sound (heardFrom c s) := hs.withLines (P := s.ports) fun _ => ⟨rfl, rfl, rfl⟩
  have hop := opClassDisable_purge (u := heardFrom c s) hk hst
  have hframe := closeClass_frame (k := k) hD
  have hrcd : ∀ q, (closeClass k true (heardFrom c s)).rcd q = if q ∈ s.queue k then (s.rcd q).freed else s.rcd q :=
    closeClass_rcd hD
  have hqueue : ∀ j, (closeClass k true (heardFrom c s)).queue j = if j = k then [] else s.queue j := closeClass_queue hD
  have hcls : ∀ j, j ≠ k → (closeClass k true (heardFrom c s)).cls j = s.cls j := fun j hj =>
    (closeClass_cls hD j).trans (if_neg hj)
  have hclsk : (closeClass k true (heardFrom c s)).cls k =
      (s.cls k).purged ends (satUp^[(s.queue k).length] (s.cls k).abandoned) := by
    rw [hends]
    exact closeClass_cls_self hD
  have hnot : (closeClass k true (heardFrom c s)).notices =
      { s.notices with
        abandon := s.notices.abandon || !(s.queue k).isEmpty
        idle := if ends then addTo s.notices.idle k.val else s.notices.idle } := by
    rw [hends]
    exact closeClass_raises hD
  have hlog := closeClass_log (k := k) hD
  have hlevel : ∀ b, (closeClass k true (heardFrom c s)).level b =
      if ∃ r ∈ s.queue k, b = (s.rcd r).addr ∧ (s.level b).pendingRec = some r
      then { s.level b with pendingRec := none } else s.level b := closeClass_level hD
  generalize closeClass k true (heardFrom c s) = w at hop hframe hrcd hqueue hcls hclsk hnot hlog hlevel
  have hlinks : ∀ l, w.link l = if l = .consumer c then (s.link l).heard else s.link l := fun l => by
    rw [hframe]
    exact heardFrom_link c s l
  have hports : ∀ m, w.port m = s.port m := fun m => by
    rw [hframe]
    rfl
  have hheard : ((placeNotice w).link (.consumer c)).heard = (placeNotice w).link (.consumer c) := by
    rw [placeNotice_link, hlinks, if_pos rfl]
    rfl
  have hexec : exec (.classDisable c seq index 1) s =
      .next (replied c seq .ok (disableData k (s.queue k).length w) (placeNotice w)) :=
    congrArg Host.Outcome.next (request_holder_of hc hheard hop)
  have hlease : w.lease = s.lease := by
    rw [hframe]
    rfl
  have hrep := replied_placeNotice (c := c) (seq := seq) (w := w) ((holds_congr hlease c).trans hc.holder) .ok
    (disableData k (s.queue k).length w)
  refine ⟨_, ⟨seq, .ok, disableData k (s.queue k).length w⟩, hexec,
    congrArg (Response.mk seq .ok) (disableData_purged _ hclsk), ?_, ⟨?_, fun m hm => ?_⟩, fun r hr => ?_, fun r hr => ?_,
    fun j hj => ?_, ?_, fun j hj => ?_, ?_, ?_, ?_, fun b r hr hb hp => ?_, fun b hb => ?_, ?_, fun m hm => ?_, ?_⟩
  · generalize replied c seq .ok (disableData k (s.queue k).length w) (placeNotice w) = t at hrep ⊢
    rw [hrep, hframe]
    rfl
  · rw [replied_link, if_pos rfl, hheard, placeNotice_link, hlinks, if_pos rfl]
  · rw [replied_link, if_neg hm, placeNotice_link, hlinks, if_neg hm]
  · rw [hrep]
    exact (hrcd r).trans (if_pos hr)
  · rw [hrep]
    exact (hrcd r).trans (if_neg hr)
  · rw [hrep]
    exact (hqueue j).trans (if_neg hj)
  · rw [hrep]
    exact (hqueue k).trans (if_pos rfl)
  · rw [hrep]
    exact hcls j hj
  · rw [hrep]
    show w.cls k = { s.cls k with
      pendingCount := 0, state := if ends then .disabled else .draining, purge := !ends, abandoned := (w.cls k).abandoned }
    rw [hclsk]
    rfl
  · rw [hrep]
    exact (congrArg (fun x : ClassRecord => x.abandoned.toNat) hclsk).trans (satUp_iterate_toNat _ _)
  · rw [hrep]
    exact ⟨hlog.log, hlog.overwrites, hlog.nextEntry⟩
  · rw [hrep]
    exact (hlevel b).trans (if_pos ⟨r, hr, hb.symm, hp⟩)
  · rw [hrep]
    refine (hlevel b).trans (if_neg ?_)
    rintro ⟨r, hr, ha, hp⟩
    exact hb r hr ha.symm hp
  · have hq := placeNotice_port_of (hports c)
    rw [replied_noticeSlot, replied_port, if_pos rfl]
    generalize (placeNotice w).port c = q at hq ⊢
    rw [hq]
  · rw [replied_port, if_neg hm]
    exact placeNotice_port_of (hports m)
  · have h := placeNotice_test s w hlease fun d => by rw [hports]
    rw [hnot] at h
    unfold NoticeTest at h ⊢
    simp only [replied_noticeSlot]
    exact h

end

end Sys2Proof.Machine
end

section
/-! # POR: O4 -/

namespace Sys2Proof.Machine

/-- Settles O4: every block that is not among the model's own fields is that of `State.inPor`, and each link keeps the report
of its detector alone. -/
theorem blocksAfterPor : Obligations.BlocksAfterPor := by
  intro s
  obtain ⟨t, ht⟩ : ∃ t, exec .por s = .next t := ⟨_, rfl⟩
  have hpor : AtPor t := atPor_execPor ht
  obtain rfl := Host.Outcome.next.inj ht
  refine ⟨_, ht, rfl, rfl, rfl, fun i => ⟨Tab.nth_all _ i, Tab.nth_all _ i⟩, rfl, rfl, rfl, fun a => Tab.nth_all _ _,
    fun k => ?_, hpor.port, rfl, fun p => Tab.nth_all _ p, rfl, rfl, rfl, rfl, rfl, rfl, rfl, rfl, rfl, fun l => ?_, rfl,
    fun n => Tab.nth_all _ n, rfl⟩
  · rw [hpor.cls]
    exact ⟨rfl, rfl, rfl, rfl, rfl, rfl, rfl, rfl⟩
  · rw [State.link_mk, Tab.nth_each, State.nth_links]
    exact ⟨rfl, rfl, rfl, rfl, rfl, rfl, rfl, rfl⟩

end Sys2Proof.Machine
end

section
/-! # Steering: which entry holds a cell, and EVENTs that no ENABLED class takes: O15 and O16 -/

namespace Sys2Proof.Machine

/-- A kind set contains a kind at the bit of its code (R172). -/
theorem inSet_kindBit (m : BitVec 3) (kind : Kind) : inSet m (kindBit kind) = true ↔
    (kind = .pulse ∧ m.getLsbD 0 = true) ∨ (kind = .level ∧ m.getLsbD 1 = true) ∨
      (kind = .value ∧ m.getLsbD 2 = true) := by
  cases kind <;> simp [inSet, kindBit]

/-- Settles O15: the conjuncts of `holdsCell` are the conditions of R26. -/
theorem entryHoldsCell : Obligations.EntryHoldsCell := by
  intro e a kind
  rw [← inSet_kindBit]
  simp only [SteerEntry.holdsCell, inSet, Bool.and_eq_true, decide_eq_true_iff, Fin.le_def, and_assoc]

section

variable {x : Arrival} {s : State} {k : ClassIdx}

/-- A class that is not ENABLED takes no cell (R41). -/
theorem takeClassified_not_enabled (h : (s.cls k).state ≠ .enabled) : takeClassified k x s = refuse k s := by
  unfold takeClassified
  cases hs : (s.cls k).state with
  | disabled => rfl
  | draining => rfl
  | enabled => exact absurd hs h

/-- The state in which Steering meets an EVENT that is passed on at once: its link has heard the cell, and the sender's next
choice is used up. -/
def atSteering (x : Arrival) (s : State) : State :=
  { s.modLink (.source x.addr.link) Link.heard with late := s.late.tail }

theorem atSteering_goodCell : GoodCell (.source x.addr.link) s (atSteering x s) :=
  ⟨State.modLink_link_same s _ _, fun _ hm => State.modLink_link_ne s _ _ hm⟩

/-- An EVENT that Steering turns into a state with the same notices, lease and ports ends there: no NOTICE is due. -/
theorem exec_command_quiet {t : State} (hn : NoticesPlaced s) (hp : Passing s (.source x.addr.link))
    (hd : datumOk x.kind x.datum = true) (ht : steer { x with stamp := s.timebase } (atSteering x s) = t)
    (h1 : t.notices = s.notices) (h2 : t.lease = s.lease) (h3 : t.ports = s.ports) :
    exec x.command s = .next t := by
  have hq : placeNotice t = t := placeNotice_quiet hn h1 h2 fun c => by rw [← State.nth_ports, h3, State.nth_ports]
  rw [exec_command hp hd]
  exact congrArg Host.Outcome.next ((congrArg placeNotice ht).trans hq)

end

/-- Settles O16: Steering counts the cell, or the class refuses it; no NOTICE is due. -/
theorem eventsWithoutEnabledClass : Obligations.EventsWithoutEnabledClass := by
  refine ⟨fun x s hn hp hd hu => ?_, fun x k s hn hp hd hr hk => ?_⟩
  · have ht : steer { x with stamp := s.timebase } (atSteering x s) = unmatchedCell x.addr (atSteering x s) :=
      steer_unmatched (x := { x with stamp := s.timebase }) (s := atSteering x s) hu
    exact ⟨_, exec_command_quiet hn hp hd ht rfl rfl rfl, rfl, atSteering_goodCell.of_links fun _ => rfl⟩
  · have ht : steer { x with stamp := s.timebase } (atSteering x s) = refuse k (atSteering x s) :=
      (steer_routed (x := { x with stamp := s.timebase }) (s := atSteering x s) hr).trans (takeClassified_not_enabled hk)
    exact ⟨_, exec_command_quiet hn hp hd ht rfl rfl rfl, rfl, atSteering_goodCell.of_links fun _ => rfl,
      fun j hj => State.modClass_cls_ne _ _ _ hj, State.modClass_cls_same _ _ _⟩

end Sys2Proof.Machine
end

section
/-! # Which page images a steering entry and a class configuration are read from: O41 -/

namespace Sys2Proof.Machine

/-! ## Reading one octet -/

theorem flagOf_eq_some {b : Byte} {v : Bool} : flagOf b = some v ↔ b.toNat = if v then 1 else 0 := by
  have h0 : b.toNat = 0 ↔ b = 0 := BitVec.toNat_inj (y := 0)
  have h1 : b.toNat = 1 ↔ b = 1 := BitVec.toNat_inj (y := 1)
  unfold flagOf
  cases v with
  | false => simp [h0]
  | true =>
    rw [if_pos rfl, h1]
    by_cases hz : b = 0
    · simp [hz]
    · rw [if_neg hz]
      simp

theorem finOf_eq_some {n : Nat} {b : Byte} {i : Fin n} : finOf n b = some i ↔ b.toNat = i.val := by
  unfold finOf
  split
  · rw [Option.some.injEq, Fin.ext_iff]
  · simp only [reduceCtorEq, false_iff]
    omega

theorem setOf_eq_some {w : Nat} {b : Byte} {m : BitVec w} : setOf w b = some m ↔ b.toNat = m.toNat := by
  unfold setOf
  split
  · rename_i hb
    rw [Option.some.injEq, ← BitVec.toNat_inj, BitVec.toNat_setWidth, Nat.mod_eq_of_lt hb]
  · rename_i hb
    simp only [reduceCtorEq, false_iff]
    intro e
    exact hb (e ▸ m.isLt)

/-! ## A steering entry -/

/-- The conditions of R23 hold an entry with its valid flag set (R32). -/
theorem steerValid_iff {e : SteerEntry} : steerValid e = true ↔
    (e.valid = true → e.links ≠ 0 ∧ e.kinds ≠ 0 ∧ e.moduleLow ≤ e.moduleHigh ∧ e.channelLow ≤ e.channelHigh) := by
  unfold steerValid
  cases e.valid <;> simp [and_assoc]

/-- An entry is read from an image whose every octet reads as its field, if it passes the test of R32. -/
theorem steerOf_eq_some {p : Page} {e : SteerEntry} : steerOf p = some e ↔
    (flagOf p.o0 = some e.valid ∧ setOf 4 p.o1 = some e.links ∧ finOf 16 p.o2 = some e.moduleLow ∧
      finOf 16 p.o3 = some e.moduleHigh ∧ finOf 64 p.o4 = some e.channelLow ∧ finOf 64 p.o5 = some e.channelHigh ∧
      setOf 3 p.o6 = some e.kinds ∧ finOf 32 p.o7 = some e.cls) ∧ steerValid e = true := by
  constructor
  · intro h
    refine ⟨?_, steerOf_valid h⟩
    unfold steerOf at h
    split at h
    · rename_i h0 h1 h2 h3 h4 h5 h6 h7
      obtain ⟨_, he⟩ := Option.ite_none_right_eq_some.mp h
      obtain rfl := Option.some.inj he
      exact ⟨h0, h1, h2, h3, h4, h5, h6, h7⟩
    · cases h
  · rintro ⟨⟨h0, h1, h2, h3, h4, h5, h6, h7⟩, hv⟩
    unfold steerOf
    rw [h0, h1, h2, h3, h4, h5, h6, h7]
    exact if_pos hv

/-- The octets read as the fields exactly when the page carries them. -/
theorem steerOf_iff_carries (p : Page) (e : SteerEntry) : steerOf p = some e ↔
    CarriesEntry p e ∧
      (e.valid = true → e.links ≠ 0 ∧ e.kinds ≠ 0 ∧ e.moduleLow ≤ e.moduleHigh ∧ e.channelLow ≤ e.channelHigh) := by
  rw [steerOf_eq_some, steerValid_iff, flagOf_eq_some, setOf_eq_some, setOf_eq_some]
  simp only [finOf_eq_some]
  rfl

/-! ## A class configuration -/

/-- The mask of the settings octet gives the four settings of a class configuration (section 11.9). -/
structure SettingsOf (bits : BitVec 4) (g : ClassConfig) : Prop where
  mode : g.mode = if inSet bits 0 then .primary else .balanced
  order : g.order = if inSet bits 1 then .serial else .free
  coalesce : g.coalesce = inSet bits 2
  policy : g.policy = if inSet bits 3 then .displace else .refuse

/-- A mask of four members as a number. -/
theorem mask4_toNat_iff : ∀ (bits : BitVec 4) (b0 b1 b2 b3 : Bool),
    bits.toNat = (if b0 then 1 else 0) + (if b1 then 2 else 0) + (if b2 then 4 else 0) + (if b3 then 8 else 0) ↔
      inSet bits 0 = b0 ∧ inSet bits 1 = b1 ∧ inSet bits 2 = b2 ∧ inSet bits 3 = b3 := by
  decide

theorem settingsOf_iff {bits : BitVec 4} {g : ClassConfig} : SettingsOf bits g ↔
    bits.toNat = (if g.mode = .primary then 1 else 0) + (if g.order = .serial then 2 else 0) +
      (if g.coalesce then 4 else 0) + (if g.policy = .displace then 8 else 0) := by
  have h := mask4_toNat_iff bits (decide (g.mode = .primary)) (decide (g.order = .serial)) g.coalesce
    (decide (g.policy = .displace))
  simp only [decide_eq_true_iff] at h
  rw [h]
  have hm : g.mode = (if inSet bits 0 then .primary else .balanced) ↔ inSet bits 0 = decide (g.mode = .primary) := by
    cases inSet bits 0 <;> cases g.mode <;> simp
  have ho : g.order = (if inSet bits 1 then .serial else .free) ↔ inSet bits 1 = decide (g.order = .serial) := by
    cases inSet bits 1 <;> cases g.order <;> simp
  have hp : g.policy = (if inSet bits 3 then .displace else .refuse) ↔ inSet bits 3 = decide (g.policy = .displace) := by
    cases inSet bits 3 <;> cases g.policy <;> simp
  constructor
  · rintro ⟨h0, h1, h2, h3⟩
    exact ⟨hm.mp h0, ho.mp h1, h2.symm, hp.mp h3⟩
  · rintro ⟨h0, h1, h2, h3⟩
    exact ⟨hm.mpr h0, ho.mpr h1, h2.symm, hp.mpr h3⟩

/-- A configuration is read from an image whose every octet reads as its field, if it lies in the ranges of R68 (R79). -/
theorem classOf_eq_some {p : Page} {g : ClassConfig} : classOf p = some g ↔
    (setOf 6 p.o0 = some g.group ∧ (∃ bits, setOf 4 p.o1 = some bits ∧ SettingsOf bits g) ∧
      finOf 4 p.o2 = some g.priority ∧ p.o3.toNat = g.ackDeadline.val ∧ p.o4.toNat = g.attemptLimit.val ∧
      p.o5.toNat = g.confirmCount.val ∧ (be16 p.o6 p.o7).toNat = g.pendingLimit.val) ∧ ConfigLawful g := by
  constructor
  · intro h
    refine ⟨?_, classOf_lawful h⟩
    unfold classOf at h
    dsimp only at h
    split at h
    · rename_i h0 h1 h2
      split at h
      · obtain rfl := Option.some.inj h
        exact ⟨h0, ⟨_, h1, rfl, rfl, rfl, rfl⟩, h2, rfl, rfl, rfl, rfl⟩
      · cases h
    · cases h
  · rintro ⟨⟨h0, ⟨bits, h1, hm, ho, hc, hp⟩, h2, h3, h4, h5, h6⟩, ha, hl, hn, hq⟩
    unfold classOf
    dsimp only
    rw [h0, h1, h2]
    dsimp only
    rw [dif_pos (by omega)]
    simp only [h3, h4, h5, h6, ← hm, ← ho, ← hc, ← hp]

/-- The octets read as the fields exactly when the page carries them. -/
theorem classOf_iff_carries (p : Page) (g : ClassConfig) : classOf p = some g ↔
    CarriesConfig p g ∧ ConfigLawful g := by
  have hs : (∃ bits, setOf 4 p.o1 = some bits ∧ SettingsOf bits g) ↔ p.o1.toNat =
      (if g.mode = .primary then 1 else 0) + (if g.order = .serial then 2 else 0) + (if g.coalesce then 4 else 0) +
        (if g.policy = .displace then 8 else 0) := by
    constructor
    · rintro ⟨bits, hb, h⟩
      exact (setOf_eq_some.mp hb).trans (settingsOf_iff.mp h)
    · intro h
      have hlt : p.o1.toNat < 2 ^ 4 := by
        rw [h]
        split <;> split <;> split <;> split <;> decide
      have hb : p.o1.toNat = (p.o1.setWidth 4).toNat := by rw [BitVec.toNat_setWidth, Nat.mod_eq_of_lt hlt]
      exact ⟨p.o1.setWidth 4, setOf_eq_some.mpr hb, settingsOf_iff.mpr (hb.symm.trans h)⟩
  rw [classOf_eq_some, setOf_eq_some, hs, finOf_eq_some]
  rfl

/-- Settles O41, octet by octet. -/
theorem pageImagesAreValidated : Obligations.PageImagesAreValidated := ⟨steerOf_iff_carries, classOf_iff_carries⟩

/-! ## The image of a record that is read from a page is the page -/

theorem page_ext {p q : Page} (h0 : p.o0 = q.o0) (h1 : p.o1 = q.o1) (h2 : p.o2 = q.o2) (h3 : p.o3 = q.o3)
    (h4 : p.o4 = q.o4) (h5 : p.o5 = q.o5) (h6 : p.o6 = q.o6) (h7 : p.o7 = q.o7) : p = q := by
  cases p
  cases q
  exact (Page.mk.injEq ..).mpr ⟨h0, h1, h2, h3, h4, h5, h6, h7⟩

theorem octet_unique {a b : Byte} {n : Nat} (ha : a.toNat = n) (hb : b.toNat = n) : a = b :=
  BitVec.eq_of_toNat_eq (ha.trans hb.symm)

theorem carriesEntry_unique {p q : Page} {e : SteerEntry} (hp : CarriesEntry p e) (hq : CarriesEntry q e) : p = q := by
  obtain ⟨p0, p1, p2, p3, p4, p5, p6, p7⟩ := hp
  obtain ⟨q0, q1, q2, q3, q4, q5, q6, q7⟩ := hq
  exact page_ext (octet_unique p0 q0) (octet_unique p1 q1) (octet_unique p2 q2) (octet_unique p3 q3)
    (octet_unique p4 q4) (octet_unique p5 q5) (octet_unique p6 q6) (octet_unique p7 q7)

/-- The pending limit takes two octets, which its number determines too. -/
theorem carriesConfig_unique {p q : Page} {g : ClassConfig} (hp : CarriesConfig p g) (hq : CarriesConfig q g) : p = q := by
  obtain ⟨p0, p1, p2, p3, p4, p5, p6⟩ := hp
  obtain ⟨q0, q1, q2, q3, q4, q5, q6⟩ := hq
  have hlimit : be16 p.o6 p.o7 = be16 q.o6 q.o7 := BitVec.eq_of_toNat_eq (p6.trans q6.symm)
  have h6 : p.o6 = q.o6 := by rw [← hi_be16 p.o6 p.o7, hlimit, hi_be16]
  have h7 : p.o7 = q.o7 := by rw [← lo_be16 p.o6 p.o7, hlimit, lo_be16]
  exact page_ext (octet_unique p0 q0) (octet_unique p1 q1) (octet_unique p2 q2) (octet_unique p3 q3)
    (octet_unique p4 q4) (octet_unique p5 q5) h6 h7

theorem steerPage_of_steerOf {p : Page} {e : SteerEntry} (h : steerOf p = some e) : steerPage e = p :=
  carriesEntry_unique (steerPage_carries e) ((steerOf_iff_carries p e).mp h).1

theorem classPage_of_classOf {p : Page} {g : ClassConfig} (h : classOf p = some g) : classPage g = p :=
  carriesConfig_unique (classPage_carries g) ((classOf_iff_carries p g).mp h).1

end Sys2Proof.Machine
end

section
/-! # WRITE of a steering entry and of CLASS, and SWAP: O40 and O42 -/

namespace Sys2Proof.Machine

section

variable {bank : Bank} {index : Half} {page : Byte} {image : Page} {u : State}

/-! ## The outcomes of a WRITE of a steering entry, in the order of its tests (R31 to R33) -/

theorem opWriteSteering_badIndex (h : 64 ≤ index.toNat ∨ page ≠ 0) :
    opWriteSteering bank index page image u = deny .badIndex u := by
  refine dif_neg ?_
  rintro ⟨hi, hp⟩
  exact h.elim (fun hn => absurd hi (by omega)) (absurd hp)

section

variable {i : Fin 64} (hi : index.toNat = i.val)

include hi

theorem opWriteSteering_frozen (hf : u.frozen = true) : opWriteSteering bank index 0 image u = deny .frozen u := by
  unfold opWriteSteering
  rw [dif_pos ⟨by omega, rfl⟩, if_pos hf]

theorem opWriteSteering_bankActive (hf : u.frozen = false) (hb : u.activeBank = bank) :
    opWriteSteering bank index 0 image u = deny .bankActive u := by
  unfold opWriteSteering
  rw [dif_pos ⟨by omega, rfl⟩, hf, if_neg Bool.false_ne_true, if_pos hb]

theorem opWriteSteering_badValue (hf : u.frozen = false) (hb : u.activeBank ≠ bank) (hv : steerOf image = none) :
    opWriteSteering bank index 0 image u = deny .badValue u := by
  unfold opWriteSteering
  rw [dif_pos ⟨by omega, rfl⟩, hf, if_neg Bool.false_ne_true, if_neg hb, hv]

theorem opWriteSteering_written {e : SteerEntry} (hf : u.frozen = false) (hb : u.activeBank ≠ bank)
    (hv : steerOf image = some e) :
    opWriteSteering bank index 0 image u = okay image (writeEntryOf bank i e u) := by
  have hlt : index.toNat < 64 := hi ▸ i.isLt
  obtain rfl : ⟨index.toNat, hlt⟩ = i := Fin.ext hi
  unfold opWriteSteering
  rw [dif_pos ⟨by omega, rfl⟩, hf, if_neg Bool.false_ne_true, if_neg hb, hv]
  dsimp only
  rw [steerPage_of_steerOf hv]

end

/-- The bank named by the WRITE has the entry replaced, and the other bank stands (R33). -/
theorem writeEntryOf_eq (bank : Bank) (i : Fin 64) (e : SteerEntry) (u : State) : writeEntryOf bank i e u =
    { u with
      bankA := if bank = .a then Tab.put u.bankA i e else u.bankA
      bankB := if bank = .b then Tab.put u.bankB i e else u.bankB } := by
  cases bank <;> rfl

/-! ## The outcomes of a WRITE of CLASS, in the order of its tests (R78 to R80) -/

theorem opWriteClass_badIndex (h : 32 ≤ index.toNat ∨ page ≠ 0) :
    opWriteClass index page image u = deny .badIndex u := by
  refine dif_neg ?_
  rintro ⟨hi, hp⟩
  exact h.elim (fun hn => absurd hi (by omega)) (absurd hp)

section

variable {k : ClassIdx} (hk : index.toNat = k.val)

include hk

theorem opWriteClass_frozen (hf : u.frozen = true) : opWriteClass index 0 image u = deny .frozen u := by
  unfold opWriteClass
  rw [dif_pos ⟨by omega, rfl⟩, if_pos hf]

theorem opWriteClass_inUse (hf : u.frozen = false) (hs : (u.cls k).state ≠ .disabled) :
    opWriteClass index 0 image u = deny .inUse u := by
  have hlt : index.toNat < 32 := hk ▸ k.isLt
  obtain rfl : ⟨index.toNat, hlt⟩ = k := Fin.ext hk
  unfold opWriteClass
  rw [dif_pos ⟨by omega, rfl⟩, hf, if_neg Bool.false_ne_true, if_pos hs]

theorem opWriteClass_badValue (hf : u.frozen = false) (hs : (u.cls k).state = .disabled) (hv : classOf image = none) :
    opWriteClass index 0 image u = deny .badValue u := by
  have hlt : index.toNat < 32 := hk ▸ k.isLt
  obtain rfl : ⟨index.toNat, hlt⟩ = k := Fin.ext hk
  unfold opWriteClass
  rw [dif_pos ⟨by omega, rfl⟩, hf, if_neg Bool.false_ne_true, if_neg (not_not.mpr hs), hv]

theorem opWriteClass_written {g : ClassConfig} (hf : u.frozen = false) (hs : (u.cls k).state = .disabled)
    (hv : classOf image = some g) :
    opWriteClass index 0 image u = okay image (u.modClass k fun x => { x with config := g }) := by
  have hlt : index.toNat < 32 := hk ▸ k.isLt
  obtain rfl : ⟨index.toNat, hlt⟩ = k := Fin.ext hk
  unfold opWriteClass
  rw [dif_pos ⟨by omega, rfl⟩, hf, if_neg Bool.false_ne_true, if_neg (not_not.mpr hs), hv]
  dsimp only
  rw [classPage_of_classOf hv]

end

end

/-- Settles O40: each outcome of the two operations, answered to the holder. -/
theorem writeSteeringAndClass : Obligations.WriteSteeringAndClass := by
  intro c seq bank index page image s hc
  refine ⟨fun h => ?_, fun i hi hp => ?_, fun h => ?_, fun k hk hp => ?_⟩
  · exact congrArg Host.Outcome.next (request_holder_denied hc (opWriteSteering_badIndex h))
  · subst hp
    refine ⟨fun hf => ?_, fun hf hb => ?_, fun hf hb => ⟨fun hv => ?_, fun e hv => ?_⟩⟩
    · exact congrArg Host.Outcome.next (request_holder_denied hc (opWriteSteering_frozen hi hf))
    · exact congrArg Host.Outcome.next (request_holder_denied hc (opWriteSteering_bankActive hi hf hb))
    · exact congrArg Host.Outcome.next (request_holder_denied hc (opWriteSteering_badValue hi hf hb hv))
    · rw [← writeEntryOf_eq]
      have hop := opWriteSteering_written (u := heardFrom c s) hi hf hb hv
      refine congrArg Host.Outcome.next (request_holder hc (hop.trans ?_))
      cases bank <;> rfl
  · exact congrArg Host.Outcome.next (request_holder_denied hc (opWriteClass_badIndex h))
  · subst hp
    refine ⟨fun hf => ?_, fun hf hs => ?_, fun hf hs => ⟨fun hv => ?_, fun g hv => ?_⟩⟩
    · exact congrArg Host.Outcome.next (request_holder_denied hc (opWriteClass_frozen hk hf))
    · exact congrArg Host.Outcome.next (request_holder_denied hc (opWriteClass_inUse hk hf hs))
    · exact congrArg Host.Outcome.next (request_holder_denied hc (opWriteClass_badValue hk hf hs hv))
    · exact congrArg Host.Outcome.next (request_holder hc (opWriteClass_written hk hf hs hv))

/-! ## SWAP -/

theorem opSwap_frozen {u : State} (hf : u.frozen = true) : opSwap u = deny .frozen u := if_pos hf

theorem opSwap_swapped {u : State} (hf : u.frozen = false) : opSwap u =
    okay (data1 (bankCode (otherBank u.activeBank))) { u with activeBank := otherBank u.activeBank } :=
  if_neg (by rw [hf]; exact Bool.false_ne_true)

/-- Settles O42: the test of the lease, then that of the frozen flag, then the exchange (R29). -/
theorem swapExchangesBanks : Obligations.SwapExchangesBanks := by
  intro c seq s hc
  have hswap (hh : s.holds c = true) (hf : s.frozen = false) : exec (.swap c seq) s =
      .next (replied c seq .ok (data1 (bankCode (otherBank s.activeBank)))
        { s with activeBank := otherBank s.activeBank }) :=
    congrArg Host.Outcome.next (request_holder ⟨hc, hh⟩ (opSwap_swapped hf))
  refine ⟨fun hh => ?_, fun hh hf => ?_, fun hh hf hb => ?_, fun hh hf hb => ?_⟩
  · exact congrArg Host.Outcome.next (request_denied hc (holderOnly_other (s := heardFrom c s) hh opSwap))
  · exact congrArg Host.Outcome.next (request_holder_denied ⟨hc, hh⟩ (opSwap_frozen hf))
  · rw [hswap hh hf, hb]
    rfl
  · rw [hswap hh hf, hb]
    rfl

end Sys2Proof.Machine
end

section
/-! # Refused, suppressed and coalesced cells: O18 and O21 -/

namespace Sys2Proof.Machine

section

variable {x : Arrival} {k : ClassIdx} {s : State}

/-! ## A cell that is refused for want of room -/

/-- Without room, a class with the REFUSE policy refuses (R44). -/
theorem storeTests_refuse (hpol : (s.cls k).config.policy = .refuse)
    (hroom : ¬ s.holding k < (s.cls k).config.pendingLimit.val ∨ s.freeList = []) :
    storeTests k x s = refuse k s := by
  have ho : overflow k x s = refuse k s := by
    unfold overflow
    rw [hpol]
  rw [← ho]
  unfold storeTests
  cases hf : s.freeList with
  | nil => rfl
  | cons r rest => exact if_neg (hroom.resolve_right (by simp [hf]))

/-- The state after a cell that the store tests refuse: its link has heard it, its channel's entry is as Level Confirmation
has left it, and its class has counted it. -/
theorem exec_refused (hn : NoticesPlaced s) (ho : Offered s x k) (ht : ToStore s x k)
    (hr : storeTests k x (atStoreTests x k s) = refuse k (atStoreTests x k s)) :
    exec x.command s = .next (refuse k (atStoreTests x k s)) := by
  have hp : placeNotice (refuse k (atStoreTests x k s)) = refuse k (atStoreTests x k s) :=
    placeNotice_quiet hn rfl rfl fun _ => rfl
  rw [exec_toStore ho ht]
  exact congrArg Host.Outcome.next ((congrArg placeNotice hr).trans hp)

end

/-- Settles O18: the REFUSE policy decides, and no NOTICE is due. -/
theorem refusePolicyRefuses : Obligations.RefusePolicyRefuses := by
  intro x k s hn ho ht hpol hfull
  have hr : storeTests k x (atStoreTests x k s) = refuse k (atStoreTests x k s) := storeTests_refuse hpol hfull
  exact ⟨refuse k (atStoreTests x k s), exec_refused hn ho ht hr, rfl,
    atStoreTests_goodCell (k := k) |>.of_links fun _ => rfl,
    fun j hj => State.modClass_cls_ne _ _ _ hj, State.modClass_cls_same _ _ _,
    fun b hb => (atStoreTests_level b).trans (if_neg hb), (atStoreTests_level x.addr).trans (if_pos rfl)⟩

/-! ## What Level Confirmation finds -/

section

variable {x : Arrival} {k : ClassIdx} {s : State}

/-- The confirmation filter leaves the pending record of its entry (R58). -/
theorem levelFilter_pendingRec (e : LevelEntry) (v : Level) (n : Fin 5) :
    (levelFilter e v n).1.pendingRec = e.pendingRec := by
  unfold levelFilter
  dsimp only
  split
  · rfl
  · split <;> split <;> rfl

/-- Step 1 of a report drops a pending record of another class and nothing else (R57). -/
theorem dropForeignPointer_eq (s : State) (k : ClassIdx) (e : LevelEntry)
    [Decidable (∃ r, e.pendingRec = some r ∧ (s.rcd r).place.cls ≠ some k)] :
    dropForeignPointer s k e =
      if ∃ r, e.pendingRec = some r ∧ (s.rcd r).place.cls ≠ some k then { e with pendingRec := none } else e := by
  unfold dropForeignPointer
  split
  · rename_i hp
    exact (if_neg fun ⟨_, h, _⟩ => nomatch hp.symm.trans h).symm
  · rename_i r hp
    by_cases hk : (s.rcd r).place.cls = some k
    · rw [if_pos hk, if_neg fun ⟨_, h, hne⟩ => hne (Option.some.inj (hp.symm.trans h) ▸ hk)]
    · rw [if_neg hk, if_pos ⟨r, hp, hk⟩]

/-- A record that an entry still names after step 1 was named before it. -/
theorem dropForeignPointer_names {e : LevelEntry} {r : RecIdx} (h : (dropForeignPointer s k e).pendingRec = some r) :
    e.pendingRec = some r := by
  unfold dropForeignPointer at h
  split at h
  · exact h
  · split at h
    · exact h
    · cases h

/-- The record that a channel's entry names after a report is one it named before. -/
theorem reportEntry_names {a : Addr} {v : Level} {r : RecIdx} (h : (reportEntry s k a v).1.pendingRec = some r) :
    (s.level a).pendingRec = some r :=
  dropForeignPointer_names ((levelFilter_pendingRec _ _ _).symm.trans h)

/-! ## The verdicts that take no record -/

/-- An ENABLED class hands a LEVEL cell to Level Confirmation (R42). -/
theorem takeClassified_level (he : (s.cls k).state = .enabled) (hx : x.kind = .level) :
    takeClassified k x s = levelReport k x s := by
  unfold takeClassified
  rw [he, hx]

/-- A report that confirms nothing leaves its channel's entry as the filter has it (R60). -/
theorem levelReport_suppressed (h : (reportEntry s k x.addr (levelOf x.datum)).2 = false) :
    levelReport k x s = s.modLevel x.addr fun _ => (reportEntry s k x.addr (levelOf x.datum)).1 := by
  simp only [levelReport, verdictOf, h, Bool.false_eq_true, if_false]

/-- A confirmed change whose entry names a record is a coalesce claim on it (R60, R61). -/
theorem levelReport_coalesced {r : RecIdx} (h : (reportEntry s k x.addr (levelOf x.datum)).2 = true)
    (hr : (reportEntry s k x.addr (levelOf x.datum)).1.pendingRec = some r) :
    levelReport k x s =
      (coalesce r x.datum x.stamp
        (s.modLevel x.addr fun _ => (reportEntry s k x.addr (levelOf x.datum)).1)).modClass k fun c =>
          { c with coalesced := satUp c.coalesced } := by
  simp only [levelReport, verdictOf, h, hr, if_true]

/-- A waiting record of a channel takes the newer level and stamp (R8). -/
theorem coalesce_waiting {r : RecIdx} {j : ClassIdx} (hp : (s.rcd r).place = .pending j)
    (hn : (s.rcd r).neverDispatched = true) (hk : (s.rcd r).kind = .level) (datum : Half) (stamp : Stamp) :
    coalesce r datum stamp s =
      s.modRec r fun e => { e with datum := datum, stamp := stamp, superseded := satUp e.superseded } := by
  unfold coalesce
  rw [hp]
  exact if_pos ⟨hn, hk⟩

/-- An offered LEVEL cell that Level Confirmation turns into a state with the same notices, lease and ports ends there. -/
theorem exec_levelReport {t : State} (hn : NoticesPlaced s) (ho : Offered s x k) (hx : x.kind = .level)
    (ht : levelReport k x (atSteering x s) = t) (h1 : t.notices = s.notices) (h2 : t.lease = s.lease)
    (h3 : t.ports = s.ports) : exec x.command s = .next t := by
  refine exec_command_quiet hn ho.passing ho.inRange ?_ h1 h2 h3
  rw [ho.stamped_eq, steer_routed (s := atSteering x s) ho.routed,
    takeClassified_level (s := atSteering x s) ho.enabled hx, ht]

end

/-- Settles O21: the two verdicts that take no record; no NOTICE is due. -/
theorem levelReportsThatTakeNoRecord : Obligations.LevelReportsThatTakeNoRecord := by
  refine ⟨fun x k e s hn ho hx he hf => ?_, fun x k r s hn hl ho hx hc hr => ?_⟩
  · have hre : reportEntry (atSteering x s) k x.addr (levelOf x.datum) =
        levelFilter e (levelOf x.datum) (s.cls k).config.confirmCount := by
      rw [he, ← dropForeignPointer_eq]
      rfl
    refine ⟨_, exec_levelReport hn ho hx (levelReport_suppressed (by rw [hre, hf])) rfl rfl rfl, rfl,
      atSteering_goodCell.of_links fun _ => rfl, fun b hb => State.modLevel_level_ne _ _ _ hb, ?_⟩
    rw [State.modLevel_level_same, hre]
  · obtain ⟨⟨j, hplace⟩, hnever, hkind, -⟩ := hl (levelIndex x.addr) r (reportEntry_names hr)
    have hco := coalesce_waiting (r := r) (j := j)
      (s := (atSteering x s).modLevel x.addr fun _ => (reportEntry s k x.addr (levelOf x.datum)).1)
      hplace hnever hkind x.datum x.stamp
    have ht := (levelReport_coalesced (s := atSteering x s) hc hr).trans
      (congrArg (fun u => u.modClass k fun c => { c with coalesced := satUp c.coalesced }) hco)
    refine ⟨_, exec_levelReport hn ho hx ht rfl rfl rfl, rfl, atSteering_goodCell.of_links fun _ => rfl,
      fun q hq => State.modRec_rcd_ne _ _ _ hq, ?_, fun j hj => State.modClass_cls_ne _ _ _ hj,
      State.modClass_cls_same _ _ _, fun b hb => State.modLevel_level_ne _ _ _ hb, State.modLevel_level_same _ _ _⟩
    rw [← ho.stamped]
    exact State.modRec_rcd_same _ _ _

end Sys2Proof.Machine
end

section
/-! # Source slots, the Timebase, and the requests on time, counts and freezing: O30, O47 and O51 -/

namespace Sys2Proof.Machine

/-! ## Source transmitters -/

/-- The cell of R50, by the link's state and then the hold state. -/
theorem sourceCell_eq (x : LinkState) (h : HoldState) :
    sourceCell x h = if x = .up then (if h = .asserted then .hold else .go) else .idle := by
  cases x <;> cases h <;> rfl

/-- Settles O30: outside POR the chosen cell begins on the link's wire. -/
theorem sourceSlotSendsHoldState : Obligations.SourceSlotSendsHoldState := by
  refine fun n s => ⟨fun hr => ?_, fun hr => congrArg Host.Outcome.next (if_pos hr)⟩
  have he : exec (.cellSlot (.source n)) s =
      .next (putOnWire (.source n) (sourceCell (s.link (.source n)).state s.hold) s) :=
    congrArg Host.Outcome.next (if_neg (by rw [hr]; exact Bool.false_ne_true))
  refine ⟨_, he, rfl, fun _ hm => State.modLink_link_ne _ _ _ hm, ?_⟩
  rw [← sourceCell_eq]
  exact State.modLink_link_same _ _ _

/-! ## One microsecond -/

/-- A running deadline falls by one (R1). -/
theorem EventRecord.elapse_awaiting {e : EventRecord} {k : ClassIdx} {c : ConsumerIdx} {d : Nat}
    (h : e.place = .awaiting k c d) : e.elapse = { e with place := .awaiting k c (d - 1) } := by
  unfold EventRecord.elapse
  rw [h]

/-- A record that is not AWAITING has no deadline to run. -/
theorem EventRecord.elapse_still {e : EventRecord} (h : ∀ k c d, e.place ≠ .awaiting k c d) : e.elapse = e := by
  unfold EventRecord.elapse
  split
  · rename_i k c d hp
    exact absurd hp (h k c d)
  all_goals rfl

/-- Settles O51: outside POR every deadline and the lease timer run with the Timebase. -/
theorem microsecondPasses : Obligations.MicrosecondPasses := by
  refine fun s => ⟨fun hr => congrArg Host.Outcome.next (if_pos hr), fun hr => ?_⟩
  have he : exec .timebaseCount s = .next { s with
      timebase := s.timebase + 1
      records := Tab.each s.records EventRecord.elapse
      lease := s.lease.map fun x => { x with remaining := x.remaining - 1 } } :=
    congrArg Host.Outcome.next (if_neg (by rw [hr]; exact Bool.false_ne_true))
  refine ⟨_, he, rfl, fun r k c d hp => ?_, fun r hp => ?_, fun hl => ?_, fun x hl => ?_⟩
  · rw [State.rcd_mk, Tab.nth_each]
    exact EventRecord.elapse_awaiting hp
  · rw [State.rcd_mk, Tab.nth_each]
    exact EventRecord.elapse_still hp
  · exact congrArg (Option.map _) hl
  · exact congrArg (Option.map _) hl

/-! ## SET_TIME, CLEAR_COUNTS and FREEZE -/

/-- A change of every entry and a change of one entry that commute with each other may be made in either order. -/
theorem tab_each_upd {α : Type} {n : Nat} (t : Tab α n) (i : Fin n) {f g : α → α} (h : ∀ x, g (f x) = f (g x)) :
    Tab.each (Tab.upd t i f) g = Tab.upd (Tab.each t g) i f := by
  apply Tab.ext_nth
  intro j
  rw [Tab.nth_each, Tab.nth_upd, Tab.nth_upd, Tab.nth_each]
  split
  · exact h _
  · rfl

/-- The state with every counter of R158 at 0. -/
def State.cleared (s : State) : State :=
  { s with
    classes := Tab.each s.classes ClassRecord.cleared
    ports := Tab.each s.ports Port.cleared
    links := Tab.each s.links Link.cleared
    malformedTotal := 0
    unmatched := 0 }

theorem State.cleared_cls (s : State) (k : ClassIdx) : s.cleared.cls k = (s.cls k).cleared := Tab.nth_each _ _ _

theorem State.cleared_port (s : State) (n : ConsumerIdx) : s.cleared.port n = (s.port n).cleared := Tab.nth_each _ _ _

theorem State.cleared_link (s : State) (l : LinkId) : s.cleared.link l = (s.link l).cleared := Tab.nth_each _ _ _

/-- The counts are cleared alike before and after the REQUEST is heard, which ends its link's bad-cell run alone. -/
theorem opClearCounts_heard (c : ConsumerIdx) (s : State) :
    opClearCounts (heardFrom c s) = okay Page.zero (heardFrom c s.cleared) := by
  have hl : Tab.each (heardFrom c s).links Link.cleared =
      Tab.upd (Tab.each s.links Link.cleared) (linkIndex (.consumer c)) Link.heard :=
    tab_each_upd s.links _ fun _ => rfl
  unfold opClearCounts
  rw [hl]
  rfl

/-- The page that SET_TIME answers with: the Timebase before the load (R40). -/
def timePage (x : Stamp) : Page :=
  { Page.zero with o0 := stampOctet x 0, o1 := stampOctet x 1, o2 := stampOctet x 2, o3 := stampOctet x 3 }

/-- Settles O47: the three operations, answered to the holder. -/
theorem setTimeClearCountsFreeze : Obligations.SetTimeClearCountsFreeze := by
  refine fun c seq s hc => ⟨fun value => ⟨timePage s.timebase, be32_octets s.timebase, rfl, rfl, rfl, rfl, ?_⟩, ?_,
    s.cleared, ?_, rfl, s.cleared_cls, s.cleared_port, s.cleared_link⟩
  · exact congrArg Host.Outcome.next (request_holder hc (u := { s with timebase := value }) (op := opSetTime value) rfl)
  · exact congrArg Host.Outcome.next (request_holder hc (u := { s with frozen := true }) (op := opFreeze) rfl)
  · exact congrArg Host.Outcome.next (request_holder hc (opClearCounts_heard c s))

end Sys2Proof.Machine
end

section
/-! # The hold rule along every operation (R49)

Every change of the free count, of the watermarks and of the restart is followed by the hold rule, which leaves a lawful hold
state whatever stood before; nothing else changes what the rule reads. -/

namespace Sys2Proof.Machine

/-- The DEVICE record is in its ranges and the hold state is as R49 gives it. -/
structure HoldRuled (s : State) : Prop where
  device : DeviceLawful s.device
  hold : HoldLawful s

/-- From `s` to `t` nothing that the hold rule reads or changes has changed, but for the notices. -/
structure SameHold (s t : State) : Prop where
  device : t.device = s.device
  hold : t.hold = s.hold
  freeList : t.freeList = s.freeList
  restart : t.restart = s.restart

section

variable {s t : State}

theorem HoldRuled.keep (h : HoldRuled s) (e : SameHold s t) : HoldRuled t where
  device := e.device ▸ h.device
  hold := by
    have hf : t.freeCount = s.freeCount := congrArg List.length e.freeList
    unfold HoldLawful
    rw [e.device, e.hold, e.restart, hf]
    exact h.hold

/-! ## The rule itself -/

/-- The hold state that the rule gives is lawful, whatever stood before. -/
theorem holdNext_lawful (h : DeviceLawful s.device) (free : Nat) :
    (holdNext s free = .released → s.device.low.val ≤ free) ∧
      (holdNext s free = .asserted → free < s.device.high.val ∨ s.restart ≠ none) := by
  obtain ⟨-, -, hlt⟩ := h
  unfold holdNext
  cases s.hold with
  | released =>
    dsimp only
    split
    · exact ⟨nofun, fun _ => Or.inl (by omega)⟩
    · exact ⟨fun _ => by omega, nofun⟩
  | asserted =>
    dsimp only
    split
    · exact ⟨fun _ => by omega, nofun⟩
    · rename_i hn
      exact ⟨nofun, fun _ => (Nat.lt_or_ge free s.device.high.val).imp_right fun hge hr => hn ⟨hge, hr⟩⟩

theorem holdRuled_applyHold (h : DeviceLawful s.device) : HoldRuled (applyHold s) := by
  have hh := applyHold_hold s s rfl rfl rfl
  rw [applyHold_frame, hh]
  exact ⟨h, holdNext_lawful h s.freeCount⟩

/-- In a lawful hold state the rule raises nothing. -/
theorem holdRaises_of_lawful (h : HoldLawful s) : holdRaises s s.freeCount = false := by
  unfold holdRaises
  cases hs : s.hold with
  | asserted => rfl
  | released => exact decide_eq_false (Nat.not_lt.mpr (h.1 hs))

/-! ## Operations that leave the hold state to stand -/

theorem sameHold_placeNotice (s : State) : SameHold s (placeNotice s) := by
  rw [placeNotice_frame]
  exact ⟨rfl, rfl, rfl, rfl⟩

theorem sameHold_drainCheck (k : ClassIdx) (s : State) : SameHold s (drainCheck k s) := by
  rw [drainCheck_frame]
  exact ⟨rfl, rfl, rfl, rfl⟩

theorem sameHold_recordAbandon (r : RecIdx) (k : ClassIdx) (why : Reason) (s : State) :
    SameHold s (recordAbandon r k why s) := by
  rw [recordAbandon_frame]
  exact ⟨rfl, rfl, rfl, rfl⟩

theorem sameHold_returnRecord (r : RecIdx) (s : State) : SameHold s (returnRecord r s) := by
  rw [returnRecord_frame]
  exact ⟨rfl, rfl, rfl, rfl⟩

theorem sameHold_displace (k : ClassIdx) (x : Arrival) (r : RecIdx) (rest : List RecIdx) (s : State) :
    SameHold s (displace k x r rest s) := by
  rw [displace_fields]
  exact ⟨rfl, rfl, rfl, rfl⟩

theorem sameHold_coalesce (r : RecIdx) (datum : Half) (stamp : Stamp) (s : State) :
    SameHold s (coalesce r datum stamp s) := by
  unfold coalesce
  split
  · split <;> exact ⟨rfl, rfl, rfl, rfl⟩
  all_goals exact ⟨rfl, rfl, rfl, rfl⟩

theorem sameHold_suspectCheck (c : ConsumerIdx) (s : State) : SameHold s (suspectCheck c s) := by
  unfold suspectCheck
  split <;> exact ⟨rfl, rfl, rfl, rfl⟩

theorem sameHold_freeLeaseOf (c : ConsumerIdx) (s : State) : SameHold s (freeLeaseOf c s) := by
  rw [freeLeaseOf_frame]
  exact ⟨rfl, rfl, rfl, rfl⟩

/-! ## Claims -/

theorem holdRuled_freeRecord (r : RecIdx) (h : HoldRuled s) : HoldRuled (freeRecord r s) := by
  have hrules {u : State} (k : ClassIdx) (hu : DeviceLawful u.device) : HoldRuled (applyHold (drainCheck k u)) :=
    holdRuled_applyHold ((sameHold_drainCheck k u).device ▸ hu)
  unfold freeRecord
  split
  · exact h
  all_goals exact hrules _ h.device

theorem holdRuled_abandon (r : RecIdx) (why : Reason) (h : HoldRuled s) : HoldRuled (abandon r why s) := by
  unfold abandon
  split
  · exact h
  · exact holdRuled_freeRecord r (h.keep (sameHold_recordAbandon r _ why s))

/-- A failure whose charge is made is an abandonment or a return. -/
theorem holdRuled_failureDecision (k : ClassIdx) (r : RecIdx) (h : HoldRuled s) : HoldRuled (failureDecision k r s) := by
  rcases failureDecision_cases k r s with ⟨-, e⟩ | ⟨-, -, e⟩ | ⟨-, -, e⟩ <;> rw [e]
  · exact holdRuled_abandon r .purged h
  · exact holdRuled_abandon r .exhausted h
  · exact h.keep (sameHold_returnRecord r s)

theorem holdRuled_returnAll (c : ConsumerIdx) (h : HoldRuled s) : HoldRuled (returnAll c s) := by
  have hpurge (t : State) (ht : HoldRuled t) (r : RecIdx) : HoldRuled (abandon r .purged (markTried c r t)) :=
    holdRuled_abandon r .purged (ht.keep ⟨rfl, rfl, rfl, rfl⟩)
  have hreturn (t : State) (ht : HoldRuled t) (r : RecIdx) : HoldRuled (returnRecord r t) :=
    ht.keep (sameHold_returnRecord r t)
  unfold returnAll
  dsimp only
  have hp := List.foldlRecOn (motive := HoldRuled) (purgedOf s c) _ h fun t ht r _ => hpurge t ht r
  have hr := List.foldrRecOn (motive := HoldRuled) (returnedOf s c) _ hp fun t ht r _ => hreturn t ht r
  exact hr.keep ⟨rfl, rfl, rfl, rfl⟩

theorem holdRuled_closeClass (k : ClassIdx) (purge : Bool) (h : HoldRuled s) : HoldRuled (closeClass k purge s) := by
  have hc : HoldRuled (s.modClass k fun c => { c with state := .draining, purge := purge }) :=
    h.keep ⟨rfl, rfl, rfl, rfl⟩
  unfold closeClass
  dsimp only
  refine HoldRuled.keep ?_ (sameHold_drainCheck k _)
  split
  · exact List.foldlRecOn (motive := HoldRuled) _ _ hc fun _ ht r _ => holdRuled_abandon r .purged ht
  · exact hc

/-! ## Steering and Admission -/

theorem holdRuled_storeTests (k : ClassIdx) (x : Arrival) (h : HoldRuled s) : HoldRuled (storeTests k x s) := by
  have ho : HoldRuled (overflow k x s) := by
    unfold overflow
    split
    · exact h.keep ⟨rfl, rfl, rfl, rfl⟩
    · split
      · exact h.keep ⟨rfl, rfl, rfl, rfl⟩
      · exact h.keep (sameHold_displace k x _ _ s)
  unfold storeTests
  split
  · exact ho
  · rename_i r rest _
    split
    · rw [allocate_eq, setPointer_eq]
      exact (holdRuled_applyHold (s := storeHead k x r rest s) h.device).keep ⟨rfl, rfl, rfl, rfl⟩
    · exact ho

theorem holdRuled_levelReport (k : ClassIdx) (x : Arrival) (h : HoldRuled s) : HoldRuled (levelReport k x s) := by
  have hl (e : LevelEntry) : HoldRuled (s.modLevel x.addr fun _ => e) := h.keep ⟨rfl, rfl, rfl, rfl⟩
  unfold levelReport
  dsimp only
  split
  · exact hl _
  · exact ((hl _).keep (sameHold_coalesce _ _ _ _)).keep ⟨rfl, rfl, rfl, rfl⟩
  · exact holdRuled_storeTests k x (hl _)

theorem holdRuled_steer (x : Arrival) (h : HoldRuled s) : HoldRuled (steer x s) := by
  have hr (k : ClassIdx) : HoldRuled (refuse k s) := h.keep ⟨rfl, rfl, rfl, rfl⟩
  unfold steer
  split
  · exact h.keep ⟨rfl, rfl, rfl, rfl⟩
  · unfold takeClassified
    split
    · exact hr _
    · exact hr _
    · split
      · exact holdRuled_levelReport _ x h
      all_goals exact holdRuled_storeTests _ x h

end

end Sys2Proof.Machine
end

section
/-! # Hold and notices along every command: O59

A transition that can make a NOTICE due ends with the Notice Unit's test, after which none is; every other leaves the set, the
holder and the notice slots as they were. -/

namespace Sys2Proof.Machine

/-- The hold rule and the Notice Unit's test have nothing left to do. -/
structure Settled (s : State) : Prop extends HoldRuled s where
  notices : NoticesPlaced s

/-- From `s` to `t` nothing that the Notice Unit's test reads has changed. -/
structure SameNotices (s t : State) : Prop where
  notices : t.notices = s.notices
  holder : t.lease.map (·.holder) = s.lease.map (·.holder)
  slot : ∀ c, (t.port c).noticeSlot = (s.port c).noticeSlot

section

variable {s t : State}

/-- The law of the notices, in terms of the holder alone. -/
theorem noticesPlaced_iff : NoticesPlaced s ↔
    s.notices = NoticeSet.none ∨ ∀ c, s.lease.map (·.holder) = some c → (s.port c).noticeSlot ≠ none := by
  unfold NoticesPlaced
  cases s.lease with
  | none => simp
  | some x => simp

theorem Settled.keep (h : Settled s) (e : SameHold s t) (n : SameNotices s t) : Settled t where
  toHoldRuled := h.toHoldRuled.keep e
  notices := by
    rw [noticesPlaced_iff, n.notices, n.holder]
    exact (noticesPlaced_iff.mp h.notices).imp_right fun hc c hx => n.slot c ▸ hc c hx

/-- Without a lease no NOTICE is due. -/
theorem HoldRuled.settled_free (h : HoldRuled s) (hl : s.lease = none) : Settled s := ⟨h, Or.inr (Or.inl hl)⟩

theorem Settled.modLink (h : Settled s) (l : LinkId) (f : Link → Link) : Settled (s.modLink l f) :=
  h.keep ⟨rfl, rfl, rfl, rfl⟩ ⟨rfl, rfl, fun _ => rfl⟩

theorem Settled.modPort (h : Settled s) (c : ConsumerIdx) {f : Port → Port}
    (hf : ∀ p, (f p).noticeSlot = p.noticeSlot) : Settled (s.modPort c f) := by
  refine h.keep ⟨rfl, rfl, rfl, rfl⟩ ⟨rfl, rfl, fun d => ?_⟩
  rw [State.modPort_port]
  split
  · exact hf _
  · rfl

/-- After the Notice Unit's test no NOTICE is due (R142). -/
theorem noticesPlaced_placeNotice (s : State) : NoticesPlaced (placeNotice s) := by
  by_cases hn : s.notices = NoticeSet.none
  · exact Or.inl ((congrArg State.notices (placeNotice_empty s hn)).trans hn)
  · cases hl : s.lease with
    | none => exact Or.inr (Or.inl ((congrArg State.lease (placeNotice_free s hl)).trans hl))
    | some x =>
      cases hs : (s.port x.holder).noticeSlot with
      | none =>
        rw [placeNotice_due s x hn hl hs]
        exact Or.inl rfl
      | some n =>
        rw [placeNotice_occupied s x n hl hs]
        exact Or.inr (Or.inr ⟨x, hl, by simp [hs]⟩)

theorem settled_placeNotice (h : HoldRuled s) : Settled (placeNotice s) :=
  ⟨h.keep (sameHold_placeNotice s), noticesPlaced_placeNotice s⟩

theorem settled_renewLease (c : ConsumerIdx) (h : Settled s) : Settled (renewLease c s) := by
  have hl : (renewLease c s).lease.map (·.holder) = s.lease.map (·.holder) := by
    unfold renewLease State.holds
    cases hs : s.lease with
    | none => exact congrArg _ hs
    | some x =>
      dsimp only
      split
      · rename_i hx
        exact congrArg some (beq_iff_eq.mp hx).symm
      · exact congrArg _ hs
  rw [renewLease_frame]
  exact h.keep ⟨rfl, rfl, rfl, rfl⟩ ⟨rfl, hl, fun _ => rfl⟩

/-! ## Steering -/

theorem settled_takeArrival (x : Arrival) (h : Settled s) : Settled (takeArrival s x) :=
  settled_placeNotice (holdRuled_steer x h.toHoldRuled)

/-- Cells taken one after another. -/
theorem settled_takeArrivals (xs : List Arrival) (h : Settled s) : Settled (xs.foldl takeArrival s) :=
  List.foldlRecOn (motive := Settled) xs _ h fun _ hu x _ => settled_takeArrival x hu

theorem settled_catchUp (n : Fin 4) (h : Settled s) : Settled (catchUp n s) := by
  unfold catchUp
  split
  · exact h
  · exact settled_takeArrivals _ (h.keep ⟨rfl, rfl, rfl, rfl⟩ ⟨rfl, rfl, fun _ => rfl⟩)

theorem settled_catchUpAll (h : Settled s) : Settled (catchUpAll s) :=
  settled_takeArrivals _ (h.keep ⟨rfl, rfl, rfl, rfl⟩ ⟨rfl, rfl, fun _ => rfl⟩)

theorem settled_passEvent (x : Arrival) (h : Settled s) : Settled (passEvent x s) := by
  unfold passEvent
  dsimp only
  split
  · exact h.keep ⟨rfl, rfl, rfl, rfl⟩ ⟨rfl, rfl, fun _ => rfl⟩
  · exact settled_takeArrival x (settled_catchUp _ (h.keep ⟨rfl, rfl, rfl, rfl⟩ ⟨rfl, rfl, fun _ => rfl⟩))

/-! ## Links -/

theorem settled_linkComesUp (l : LinkId) (h : Settled s) : Settled (linkComesUp l s) := by
  cases l with
  | source n => exact h
  | consumer c => exact h.modPort c fun p => by split <;> rfl

theorem settled_linkLeavesUp (l : LinkId) (h : Settled s) : Settled (linkLeavesUp l s) := by
  cases l with
  | source n => exact settled_catchUp n (h.keep ⟨rfl, rfl, rfl, rfl⟩ ⟨rfl, rfl, fun _ => rfl⟩)
  | consumer c =>
    have hd : HoldRuled (s.modPort c fun p => { p with state := p.state.detach }) :=
      h.toHoldRuled.keep ⟨rfl, rfl, rfl, rfl⟩
    have hp : HoldRuled (portLoss c s) := (holdRuled_returnAll c hd).keep ⟨rfl, rfl, rfl, rfl⟩
    have hw : HoldRuled ((portLoss c s).modLink (.consumer c) fun x => { x with wire := .quiet }) :=
      hp.keep ⟨rfl, rfl, rfl, rfl⟩
    exact settled_placeNotice (hw.keep (sameHold_freeLeaseOf c _))

theorem settled_goodAligning (l : LinkId) (h : Settled s) : Settled (goodAligning l s) := by
  unfold goodAligning
  split
  · exact settled_linkComesUp l (h.modLink l _)
  · exact h.modLink l _

theorem settled_goodCell {k : State → State} (hk : ∀ {u}, Settled u → Settled (k u)) (l : LinkId) (h : Settled s) :
    Settled (goodCell l k s) := by
  unfold goodCell
  split
  · exact h
  · exact settled_goodAligning l h
  · exact hk (h.modLink l _)

theorem settled_passOn {k : State → State} (hk : ∀ {u}, Settled u → Settled (k u)) (l : LinkId) (h : Settled s) :
    Settled (passOn l k s) := by
  refine settled_goodCell (fun hu => ?_) l h
  split
  · exact hu.modLink l _
  · exact hk hu

theorem settled_settle (l : LinkId) (h : Settled s) : Settled (settle l s) := by
  cases l with
  | source n => exact settled_catchUp n h
  | consumer c => exact h

theorem settled_takeMalformed (l : LinkId) (h : Settled s) : Settled (takeMalformed l s) := by
  refine settled_goodCell (fun hu => ?_) l h
  exact settled_settle l (hu.keep ⟨rfl, rfl, rfl, rfl⟩ ⟨rfl, rfl, fun _ => rfl⟩)

theorem settled_beginAligning (l : LinkId) (h : Settled s) : Settled (beginAligning l s) :=
  h.keep ⟨rfl, rfl, rfl, rfl⟩ ⟨rfl, rfl, fun _ => rfl⟩

theorem settled_badCellUp (l : LinkId) (h : Settled s) : Settled (badCellUp l s) := by
  unfold badCellUp
  dsimp only
  split
  · have hd := settled_linkLeavesUp l ((h.modLink l fun x => { x with badCells := satUp x.badCells }).modLink l
      fun x => { x with state := .down, alignCount := 0, badRun := 0 })
    split
    · exact settled_beginAligning l hd
    · exact hd
  · exact (h.modLink l _).modLink l _

/-! ## Consumer cells, deadlines, grants and slots -/

theorem settled_countStale (c : ConsumerIdx) (h : Settled s) : Settled (countStale c s) := h.modPort c fun _ => rfl

theorem settled_takeAckTag (c : ConsumerIdx) (tag : Tag) (h : Settled s) : Settled (takeAckTag c s tag) := by
  unfold takeAckTag
  split
  · exact settled_placeNotice (holdRuled_freeRecord _ (h.toHoldRuled.keep ⟨rfl, rfl, rfl, rfl⟩))
  · exact settled_countStale c h

/-- The tags of an ACK, one after another. -/
theorem settled_takeAckTags (c : ConsumerIdx) (tags : List Tag) (h : Settled s) :
    Settled (tags.foldl (takeAckTag c) s) :=
  List.foldlRecOn (motive := Settled) tags _ h fun _ hu tag _ => settled_takeAckTag c tag hu

/-- A charged failure, its consumer's counters changed first. -/
theorem holdRuled_failure (c : ConsumerIdx) (k : ClassIdx) (r : RecIdx) (f : Port → Port) (h : HoldRuled s) :
    HoldRuled (failureDecision k r (chargeFailure c r (s.modPort c f))) :=
  holdRuled_failureDecision k r (h.keep ⟨rfl, rfl, rfl, rfl⟩)

theorem settled_expiry (c : ConsumerIdx) (k : ClassIdx) (r : RecIdx) (h : Settled s) :
    Settled (placeNotice (expire c k r s)) :=
  settled_placeNotice ((holdRuled_failure c k r _ h.toHoldRuled).keep (sameHold_suspectCheck c _))

theorem settled_takeLoad (c : ConsumerIdx) (level : Fin 16) (h : Settled s) :
    Settled (s.modPort c fun p => p.takeLoad level) := by
  refine h.modPort c fun p => ?_
  unfold Port.takeLoad
  split <;> rfl

theorem settled_grantRecord (k : ClassIdx) (c : ConsumerIdx) (r : RecIdx) (rest : List RecIdx) (h : Settled s) :
    Settled (grantRecord k c r rest s) := by
  have hslot (d : ConsumerIdx) : ((grantRecord k c r rest s).port d).noticeSlot = (s.port d).noticeSlot := by
    rw [grantRecord_port]
    split <;> rfl
  rw [grantRecord_eq] at hslot ⊢
  exact h.keep ⟨rfl, rfl, rfl, rfl⟩ ⟨rfl, rfl, hslot⟩

theorem settled_consumerSlot (c : ConsumerIdx) (h : Settled s) : Settled (consumerSlot c s) := by
  unfold consumerSlot
  split
  · exact (h.modPort c (f := fun p => { p with responseSlot := none }) fun _ => rfl).modLink _ _
  · split
    · exact settled_placeNotice (h.toHoldRuled.keep ⟨rfl, rfl, rfl, rfl⟩)
    · split <;> exact h.modLink _ _

theorem settled_deliverSent (c : ConsumerIdx) (d : Deliver) (h : Settled s) : Settled (deliverSent c d s) := by
  unfold deliverSent
  split
  · rename_i k _ _
    split
    · have hr : Settled (s.modRec d.tag.index fun e => { e with place := .awaiting k c (ackSpan s k) }) :=
        h.keep ⟨rfl, rfl, rfl, rfl⟩ ⟨rfl, rfl, fun _ => rfl⟩
      exact hr.modPort c fun _ => rfl
    · exact h
  all_goals exact h

/-! ## Requests -/

/-- Carrying out the operation leaves the hold rule and the Notice Unit nothing to do. -/
def OpSettles (op : State → Answer) : Prop := ∀ {s}, Settled s → Settled (op s).state

theorem settled_placeResponse (c : ConsumerIdx) (x : Response) (h : Settled s) : Settled (placeResponse c x s) :=
  h.modPort c fun _ => rfl

theorem settled_carryOut {op : State → Answer} (ho : OpSettles op) (c : ConsumerIdx) (seq : Byte) (h : Settled s) :
    Settled (carryOut c seq op s) := by
  unfold carryOut
  dsimp only
  split
  · exact ho h
  · exact settled_renewLease c ((settled_placeResponse c _ (ho h)).modPort c fun _ => rfl)

theorem settled_request {op : State → Answer} (ho : OpSettles op) (c : ConsumerIdx) (seq : Byte) (h : Settled s) :
    Settled (request c seq op s) := by
  refine settled_passOn (fun hu => ?_) _ h
  unfold intake
  split
  · exact hu.modPort c fun _ => rfl
  · split
    · exact settled_carryOut ho c seq hu
    · split
      · exact settled_renewLease c ((settled_placeResponse c _ hu).modPort c fun _ => rfl)
      · exact settled_carryOut ho c seq hu

theorem opSettles_deny (x : Status) : OpSettles (deny x) := id

theorem opSettles_holderOnly {op : State → Answer} (ho : OpSettles op) (c : ConsumerIdx) :
    OpSettles (holderOnly c op) := fun h => by
  unfold holderOnly
  split
  · exact ho h
  · exact h

theorem opSettles_claim (c : ConsumerIdx) : OpSettles (opClaim c) := fun h => by
  unfold opClaim
  dsimp only
  split
  · exact settled_placeNotice (h.toHoldRuled.keep ⟨rfl, rfl, rfl, rfl⟩)
  · split <;> exact h

theorem opSettles_release : OpSettles opRelease := fun h =>
  HoldRuled.settled_free (h.toHoldRuled.keep ⟨rfl, rfl, rfl, rfl⟩) rfl

theorem opSettles_read (table : Byte) (index : Half) (page : Byte) : OpSettles (opRead table index page) := fun h => by
  unfold opRead
  split
  · exact h
  · split <;> exact h

theorem opSettles_writeDevice (index : Half) (page : Byte) (image : Page) :
    OpSettles (opWriteDevice index page image) := fun h => by
  unfold opWriteDevice
  split
  · split
    · exact h
    · split
      · exact h
      · rename_i hd
        exact settled_placeNotice (holdRuled_applyHold (deviceOf_lawful hd))
  · exact h

theorem opSettles_writeSteering (which : Bank) (index : Half) (page : Byte) (image : Page) :
    OpSettles (opWriteSteering which index page image) := fun h => by
  unfold opWriteSteering
  split
  · split
    · exact h
    · split
      · exact h
      · split
        · exact h
        · cases which <;> exact h.keep ⟨rfl, rfl, rfl, rfl⟩ ⟨rfl, rfl, fun _ => rfl⟩
  · exact h

theorem opSettles_writeClass (index : Half) (page : Byte) (image : Page) :
    OpSettles (opWriteClass index page image) := fun h => by
  unfold opWriteClass
  split
  · split
    · exact h
    · split
      · exact h
      · split
        · exact h
        · exact h.keep ⟨rfl, rfl, rfl, rfl⟩ ⟨rfl, rfl, fun _ => rfl⟩
  · exact h

theorem opSettles_writeConsumer (index : Half) (page : Byte) (image : Page) :
    OpSettles (opWriteConsumer index page image) := fun h => by
  unfold opWriteConsumer
  split
  · split
    · exact h
    · split
      · exact h
      · split
        · exact h
        · exact h.modPort _ fun _ => rfl
  · exact h

theorem opSettles_write (table : Byte) (index : Half) (page : Byte) (image : Page) :
    OpSettles (opWrite table index page image) := fun h => by
  unfold opWrite
  split
  · exact h
  · split
    · exact opSettles_writeDevice index page image h
    · exact opSettles_writeSteering _ index page image h
    · exact opSettles_writeClass index page image h
    · exact opSettles_writeConsumer index page image h
    all_goals exact h

theorem opSettles_swap : OpSettles opSwap := fun h => by
  unfold opSwap
  split
  · exact h
  · exact h.keep ⟨rfl, rfl, rfl, rfl⟩ ⟨rfl, rfl, fun _ => rfl⟩

theorem opSettles_classEnable (index : Half) : OpSettles (opClassEnable index) := fun {s} h => by
  have hc (k : ClassIdx) (f : ClassRecord → ClassRecord) : Settled (s.modClass k f) :=
    h.keep ⟨rfl, rfl, rfl, rfl⟩ ⟨rfl, rfl, fun _ => rfl⟩
  unfold opClassEnable
  split
  · unfold enableClass
    split
    · split
      · exact h
      · exact hc _ _
    · exact hc _ _
    · exact h
  · exact h

theorem opSettles_classDisable (index : Half) (flag : Byte) : OpSettles (opClassDisable index flag) := fun {s} h => by
  have hc (k : ClassIdx) (purge : Bool) : Settled (placeNotice (closeClass k purge s)) :=
    settled_placeNotice (holdRuled_closeClass k purge h.toHoldRuled)
  unfold opClassDisable
  split
  · split
    · exact h
    · unfold disableClass
      split
      · exact h
      · exact hc _ _
      · split
        · exact hc _ _
        · exact h
  · exact h

theorem opSettles_consumerEnable (index : Half) : OpSettles (opConsumerEnable index) := fun h => by
  unfold opConsumerEnable
  split
  · unfold enableConsumer
    split
    · exact h.modPort _ fun _ => rfl
    all_goals exact h
  · exact h

theorem opSettles_consumerDisable (index : Half) : OpSettles (opConsumerDisable index) := fun {s} h => by
  have hp (n : ConsumerIdx) : HoldRuled (portDisable n s) :=
    have ho : HoldRuled (s.modPort n fun p => { p with state := .off }) :=
      h.toHoldRuled.keep ⟨rfl, rfl, rfl, rfl⟩
    (holdRuled_returnAll n ho).keep ⟨rfl, rfl, rfl, rfl⟩
  unfold opConsumerDisable
  split
  · unfold disableConsumer
    split
    · exact h
    · exact settled_placeNotice (hp _)
  · exact h

theorem opSettles_setTime (value : Stamp) : OpSettles (opSetTime value) := fun h =>
  h.keep ⟨rfl, rfl, rfl, rfl⟩ ⟨rfl, rfl, fun _ => rfl⟩

theorem opSettles_takeLog (index : Half) (page : Byte) : OpSettles (opTakeLog index page) := fun h => by
  unfold opTakeLog
  split
  · split
    · exact h
    · split
      · exact h
      · dsimp only [okay]
        split
        · exact h.keep ⟨rfl, rfl, rfl, rfl⟩ ⟨rfl, rfl, fun _ => rfl⟩
        · exact h
  · exact h

theorem opSettles_clearCounts : OpSettles opClearCounts := fun {s} h => by
  show Settled s.cleared
  refine h.keep ⟨rfl, rfl, rfl, rfl⟩ ⟨rfl, rfl, fun c => ?_⟩
  rw [State.cleared_port]
  rfl

theorem opSettles_freeze : OpSettles opFreeze := fun h => h.keep ⟨rfl, rfl, rfl, rfl⟩ ⟨rfl, rfl, fun _ => rfl⟩

/-! ## The soft restart -/

/-- A restart asserts hold while it runs, and frees the lease (R54, R160). -/
theorem settled_emptyBlocks (job : RestartJob) (h : DeviceLawful s.device) : Settled (emptyBlocks job s) := by
  have hd : DeviceLawful (emptyBlocks job s).device := by
    show DeviceLawful (if job.retain then s.device else Device.por)
    split
    · exact h
    · exact deviceLawful_por
  have hh : HoldLawful (emptyBlocks job s) := ⟨nofun, fun _ => Or.inr nofun⟩
  exact HoldRuled.settled_free ⟨hd, hh⟩ rfl

theorem opSettles_restart (c : ConsumerIdx) (seq flag : Byte) : OpSettles (opRestart c seq flag) := fun h => by
  unfold opRestart
  split
  · exact h
  · split
    · exact h
    · exact settled_emptyBlocks _ (settled_catchUpAll h).device

/-- The hold rule at the end of a restart can release hold alone, so it raises nothing (R54). -/
theorem settled_endRestart (h : Settled s) : Settled (applyHold { s with restart := none }) := by
  have hn : (applyHold { s with restart := none }).notices = s.notices := by
    rw [applyHold_notices s { s with restart := none } rfl rfl]
    show { s.notices with hold := s.notices.hold || holdRaises s s.freeCount } = s.notices
    rw [holdRaises_of_lawful h.hold, Bool.or_false]
  have hr : HoldRuled (applyHold { s with restart := none }) := holdRuled_applyHold h.device
  refine ⟨hr, ?_⟩
  rw [noticesPlaced_iff, hn, applyHold_frame]
  exact noticesPlaced_iff.mp h.notices

theorem settled_finishRestart (job : RestartJob) (h : Settled s) : Settled (finishRestart job s) := by
  have hc : Settled { s with ports := Tab.each s.ports fun p => { p with replay := none } } := by
    refine h.keep ⟨rfl, rfl, rfl, rfl⟩ ⟨rfl, rfl, fun c => ?_⟩
    rw [State.port_mk, Tab.nth_each]
    rfl
  have hp := hc.modPort job.requester (f := fun p => { p with replay := some (restartResponse job s) }) fun _ => rfl
  unfold finishRestart
  dsimp only
  apply settled_endRestart
  split
  · exact hp.modPort _ fun _ => rfl
  · exact hp

/-! ## Every command -/

/-- At POR every record is FREE, hold is RELEASED and the notice set is empty (R54, R145). -/
theorem settled_execPor (h : execPor s = .next t) : Settled t := by
  have hpor := atPor_execPor h
  have hd : DeviceLawful t.device := hpor.device ▸ deviceLawful_por
  have hf : t.freeCount = 512 := (congrArg List.length hpor.freeList).trans List.length_finRange
  obtain ⟨hhold, hlease⟩ : t.hold = .released ∧ t.lease = none := by
    obtain rfl := Host.Outcome.next.inj h
    dsimp only [State.inPor]
    exact ⟨rfl, rfl⟩
  have hh : HoldLawful t := by
    unfold HoldLawful
    rw [hhold, hf]
    exact ⟨fun _ => by omega, nofun⟩
  exact HoldRuled.settled_free ⟨hd, hh⟩ hlease

theorem settled_execResetRelease (hs : Settled s) (h : execResetRelease s = .next t) : Settled t := by
  obtain rfl := Host.Outcome.next.inj h
  split
  · exact hs.keep ⟨rfl, rfl, rfl, rfl⟩ ⟨rfl, rfl, fun _ => rfl⟩
  · exact hs

theorem settled_execSignalPresent {l : LinkId} (hs : Settled s) (h : execSignalPresent l s = .next t) : Settled t := by
  obtain rfl := Host.Outcome.next.inj h
  split
  · exact settled_beginAligning l (hs.modLink l _)
  · exact hs.modLink l _

theorem settled_execLossOfSignal {l : LinkId} (hs : Settled s) (h : execLossOfSignal l s = .next t) : Settled t := by
  have hd := (hs.modLink l fun x => { x with signal := false }).modLink l
    fun x => { x with state := .down, alignCount := 0, badRun := 0 }
  obtain rfl := Host.Outcome.next.inj h
  split
  · exact hs.modLink l _
  · exact hd
  · exact settled_linkLeavesUp l hd

theorem settled_execGoodCellAligning {l : LinkId} (hs : Settled s) (h : execGoodCellAligning l s = .next t) :
    Settled t := by
  obtain rfl := Host.Outcome.next.inj h
  split
  · exact hs
  · exact settled_goodAligning l hs
  · exact hs

theorem settled_execBadCell {l : LinkId} (hs : Settled s) (h : execBadCell l s = .next t) : Settled t := by
  obtain rfl := Host.Outcome.next.inj h
  split
  · exact hs
  · exact hs.modLink l _
  · exact settled_badCellUp l hs

theorem settled_execMalformedCell {l : LinkId} (hs : Settled s) (h : execMalformedCell l s = .next t) : Settled t := by
  obtain rfl := Host.Outcome.next.inj h
  exact settled_takeMalformed l hs

theorem settled_execIdle {l : LinkId} (hs : Settled s) (h : execIdle l s = .next t) : Settled t := by
  obtain rfl := Host.Outcome.next.inj h
  exact settled_goodCell (settled_settle l) l hs

theorem settled_execEvent {n : Fin 4} {m : Fin 16} {ch : Fin 64} {kind : Kind} {datum : Half} (hs : Settled s)
    (h : execEvent n m ch kind datum s = .next t) : Settled t := by
  obtain rfl := Host.Outcome.next.inj h
  split
  · exact settled_passOn (fun hu => settled_passEvent _ hu) _ hs
  · exact settled_takeMalformed _ hs

theorem settled_execAck {c : Fin 6} {tags : List Tag} (hs : Settled s) (h : execAck c tags s = .next t) : Settled t := by
  obtain rfl := Host.Outcome.next.inj h
  split
  · exact settled_passOn (settled_takeAckTags c tags) _ hs
  · exact settled_takeMalformed _ hs

theorem settled_execNackBusy {c : Fin 6} {tag : Tag} (hs : Settled s) (h : execNackBusy c tag s = .next t) :
    Settled t := by
  obtain rfl := Host.Outcome.next.inj h
  refine settled_passOn (fun hu => ?_) _ hs
  split
  · exact settled_placeNotice (holdRuled_failure c _ _ _ hu.toHoldRuled)
  · exact settled_countStale c hu

theorem settled_execNackReject {c : Fin 6} {tag : Tag} (hs : Settled s) (h : execNackReject c tag s = .next t) :
    Settled t := by
  obtain rfl := Host.Outcome.next.inj h
  refine settled_passOn (fun hu => ?_) _ hs
  split
  · exact settled_placeNotice (holdRuled_abandon _ .rejected (hu.toHoldRuled.keep ⟨rfl, rfl, rfl, rfl⟩))
  · exact settled_countStale c hu

theorem settled_execLoad {c : Fin 6} {level : Fin 16} (hs : Settled s) (h : execLoad c level s = .next t) :
    Settled t := by
  obtain rfl := Host.Outcome.next.inj h
  exact settled_passOn (settled_takeLoad c level) _ hs

theorem settled_execExpiry {r : Fin 512} (hs : Settled s) (h : execExpiry r s = .next t) : Settled t := by
  obtain rfl := Host.Outcome.next.inj h
  split
  · split
    · exact settled_expiry _ _ r hs
    · exact hs
  all_goals exact hs

theorem settled_execGrant (hs : Settled s) (h : execGrant s = .next t) : Settled t := by
  obtain rfl := Host.Outcome.next.inj h
  split
  · exact hs
  · split
    · exact hs
    · exact settled_grantRecord _ _ _ _ hs

theorem settled_execCellSlot {l : LinkId} (hs : Settled s) (h : execCellSlot l s = .next t) : Settled t := by
  obtain rfl := Host.Outcome.next.inj h
  split
  · exact hs
  · split
    · exact hs.modLink _ _
    · split
      · exact hs
      · split
        · exact hs.modLink _ _
        · exact hs.modLink _ _
        · exact settled_consumerSlot _ hs

theorem settled_execSendCompletion {c : Fin 6} (hs : Settled s) (h : execSendCompletion c s = .next t) : Settled t := by
  obtain rfl := Host.Outcome.next.inj h
  split
  · exact hs
  · exact hs.modLink _ _
  · split
    · exact settled_deliverSent c _ (hs.modLink _ _)
    all_goals exact hs

theorem settled_execLeaseTimerExpiry (hs : Settled s) (h : execLeaseTimerExpiry s = .next t) : Settled t := by
  obtain rfl := Host.Outcome.next.inj h
  split
  · exact hs
  · split
    · exact HoldRuled.settled_free (hs.toHoldRuled.keep ⟨rfl, rfl, rfl, rfl⟩) rfl
    · exact hs

theorem settled_execEndOfRestart (hs : Settled s) (h : execEndOfRestart s = .next t) : Settled t := by
  obtain rfl := Host.Outcome.next.inj h
  split
  · exact hs
  · exact settled_finishRestart _ hs

theorem settled_execTimebaseCount (hs : Settled s) (h : execTimebaseCount s = .next t) : Settled t := by
  have hl : (s.lease.map fun x => { x with remaining := x.remaining - 1 }).map (·.holder) = s.lease.map (·.holder) :=
    Option.map_map _ _ _
  obtain rfl := Host.Outcome.next.inj h
  split
  · exact hs
  · exact hs.keep ⟨rfl, rfl, rfl, rfl⟩ ⟨rfl, hl, fun _ => rfl⟩

/-- A request whose operation leaves the hold rule and the Notice Unit nothing to do. -/
theorem settled_of_request {op : State → Answer} (ho : OpSettles op) {c : ConsumerIdx} {seq : Byte} (hs : Settled s)
    (h : (.next (request c seq op s) : Result) = .next t) : Settled t := by
  obtain rfl := Host.Outcome.next.inj h
  exact settled_request ho c seq hs

/-- The same for a request that needs the lease. -/
theorem settled_of_holder_request {op : State → Answer} (ho : OpSettles op) {c : ConsumerIdx} {seq : Byte}
    (hs : Settled s) (h : (.next (request c seq (holderOnly c op) s) : Result) = .next t) : Settled t :=
  settled_of_request (opSettles_holderOnly ho c) hs h

/-- Every command leaves the hold rule and the Notice Unit nothing to do. -/
theorem exec_settled {i : Instr} (hs : Settled s) (h : exec i s = .next t) : Settled t := by
  cases i with
  | por => exact settled_execPor h
  | resetRelease => exact settled_execResetRelease hs h
  | signalPresent l => exact settled_execSignalPresent hs h
  | lossOfSignal l => exact settled_execLossOfSignal hs h
  | goodCellAligning l => exact settled_execGoodCellAligning hs h
  | badCell l => exact settled_execBadCell hs h
  | malformedCell l => exact settled_execMalformedCell hs h
  | idle l => exact settled_execIdle hs h
  | event n m ch kind datum => exact settled_execEvent hs h
  | ack c tags => exact settled_execAck hs h
  | nackBusy c tag => exact settled_execNackBusy hs h
  | nackReject c tag => exact settled_execNackReject hs h
  | load c level => exact settled_execLoad hs h
  | expiry r => exact settled_execExpiry hs h
  | grant => exact settled_execGrant hs h
  | cellSlot l => exact settled_execCellSlot hs h
  | sendCompletion c => exact settled_execSendCompletion hs h
  | leaseTimerExpiry => exact settled_execLeaseTimerExpiry hs h
  | endOfRestart => exact settled_execEndOfRestart hs h
  | timebaseCount => exact settled_execTimebaseCount hs h
  | badOp c seq op => exact settled_of_request (opSettles_deny _) hs h
  | claim c seq => exact settled_of_request (opSettles_claim c) hs h
  | read c seq table index page => exact settled_of_request (opSettles_read table index page) hs h
  | release c seq => exact settled_of_holder_request opSettles_release hs h
  | write c seq table index page image =>
    exact settled_of_holder_request (opSettles_write table index page image) hs h
  | writeDevice c seq index page image =>
    exact settled_of_holder_request (opSettles_writeDevice index page image) hs h
  | writeSteering c seq which index page image =>
    exact settled_of_holder_request (opSettles_writeSteering which index page image) hs h
  | writeClass c seq index page image =>
    exact settled_of_holder_request (opSettles_writeClass index page image) hs h
  | writeConsumer c seq index page image =>
    exact settled_of_holder_request (opSettles_writeConsumer index page image) hs h
  | swap c seq => exact settled_of_holder_request opSettles_swap hs h
  | classEnable c seq index => exact settled_of_holder_request (opSettles_classEnable index) hs h
  | classDisable c seq index flag => exact settled_of_holder_request (opSettles_classDisable index flag) hs h
  | consumerEnable c seq index => exact settled_of_holder_request (opSettles_consumerEnable index) hs h
  | consumerDisable c seq index => exact settled_of_holder_request (opSettles_consumerDisable index) hs h
  | setTime c seq value => exact settled_of_holder_request (opSettles_setTime value) hs h
  | takeLog c seq index page => exact settled_of_holder_request (opSettles_takeLog index page) hs h
  | clearCounts c seq => exact settled_of_holder_request opSettles_clearCounts hs h
  | freeze c seq => exact settled_of_holder_request opSettles_freeze hs h
  | restart c seq flag => exact settled_of_holder_request (opSettles_restart c seq flag) hs h

end

/-- Settles O59: the command at the front of the queue is carried out in a state that differs in the queue alone. -/
theorem everyStepKeepsHoldAndNotices : Obligations.EveryStepKeepsHoldAndNotices := by
  rintro s t ⟨hd, hh, hn⟩ h
  have hs : Settled s := ⟨⟨hd, hh⟩, hn⟩
  have ht : Settled t := by
    unfold step at h
    split at h
    · exact Host.Outcome.next.inj h ▸ hs
    · have hq (q : List Instr) : Settled { s with pending := q } :=
        hs.keep ⟨rfl, rfl, rfl, rfl⟩ ⟨rfl, rfl, fun _ => rfl⟩
      exact exec_settled (hq _) h
  exact ⟨ht.device, ht.hold, ht.notices⟩

end Sys2Proof.Machine
end

section
/-! # Pointers of the Level Image: the claims of the store

A pointer names a record that waits: PENDING, never dispatched, LEVEL, of the entry's own channel (R63). What happens to an
entry or to a record is lawful in one of three ways: the pointers become fewer, the records that wait go on waiting, or the one
record that changes has no pointer to it. -/

namespace Sys2Proof.Machine

/-! ## Pointers and the records they may name -/

/-- Entry `i` of the Level Image names record `r`. -/
def Names (s : State) (i : Fin 4096) (r : RecIdx) : Prop := (Tab.nth s.levels i).pendingRec = some r

/-- A record that entry `i` of the Level Image may name (R63). -/
structure WaitsFor (i : Fin 4096) (e : EventRecord) : Prop where
  pending : ∃ k, e.place = .pending k
  neverDispatched : e.neverDispatched = true
  kind : e.kind = .level
  addr : levelIndex e.addr = i

/-- No entry names record `r`. -/
def Unnamed (r : RecIdx) (s : State) : Prop := ∀ i, ¬ Names s i r

/-- From `s` to `t` neither a record nor a Level Image entry has changed. -/
structure SamePointers (s t : State) : Prop where
  records : t.records = s.records
  levels : t.levels = s.levels

section

variable {s u t : State} {r : RecIdx} {i : Fin 4096}

theorem names_level {a : Addr} : Names s (levelIndex a) r ↔ (s.level a).pendingRec = some r := Iff.rfl

theorem pointersLawful_iff : PointersLawful s ↔ ∀ i r, Names s i r → WaitsFor i (s.rcd r) :=
  forall₃_congr fun _ _ _ => ⟨fun ⟨a, b, c, d⟩ => ⟨a, b, c, d⟩, fun ⟨a, b, c, d⟩ => ⟨a, b, c, d⟩⟩

theorem PointersLawful.waits (h : PointersLawful s) (hn : Names s i r) : WaitsFor i (s.rcd r) :=
  pointersLawful_iff.mp h i r hn

/-- Pointers may go, and the records of those that stay go on waiting. -/
theorem PointersLawful.mono (h : PointersLawful s) (hn : ∀ i r, Names t i r → Names s i r)
    (hw : ∀ i r, Names t i r → WaitsFor i (s.rcd r) → WaitsFor i (t.rcd r)) : PointersLawful t :=
  pointersLawful_iff.mpr fun i r e => hw i r e (h.waits (hn i r e))

theorem SamePointers.refl (s : State) : SamePointers s s := ⟨rfl, rfl⟩

theorem SamePointers.trans (h : SamePointers s u) (g : SamePointers u t) : SamePointers s t :=
  ⟨g.records.trans h.records, g.levels.trans h.levels⟩

theorem SamePointers.lawful (e : SamePointers s t) (h : PointersLawful s) : PointersLawful t :=
  h.mono (fun i r hn => by unfold Names at hn; rwa [e.levels] at hn)
    fun i r _ hw => by unfold State.rcd at hw ⊢; rwa [e.records]

/-- Records that wait go on waiting where no entry has changed. -/
theorem PointersLawful.of_waiting (h : PointersLawful s) (hl : t.levels = s.levels)
    (hw : ∀ i r, WaitsFor i (s.rcd r) → WaitsFor i (t.rcd r)) : PointersLawful t :=
  h.mono (fun i r hn => by unfold Names at hn; rwa [hl] at hn) fun i r _ => hw i r

/-- A record that no entry names may change at will. -/
theorem PointersLawful.of_unnamed (h : PointersLawful s) (hu : Unnamed r s) (hl : t.levels = s.levels)
    (ho : OnlyRecord r s t) : PointersLawful t := by
  have hn : ∀ i q, Names t i q → Names s i q := fun i q e => by unfold Names at e; rwa [hl] at e
  refine h.mono hn fun i q e hw => ?_
  have hq : q ≠ r := fun x => hu i (x ▸ hn i q e)
  rwa [ho q hq]

/-- A Level Image that names no record is lawful. -/
theorem PointersLawful.of_blank (h : ∀ i, (Tab.nth t.levels i).pendingRec = none) : PointersLawful t :=
  fun i _ e => nomatch (h i).symm.trans e

/-- A record that is not PENDING has no pointer to it (R63). -/
theorem PointersLawful.unnamed_of_place (h : PointersLawful s) (hp : ∀ k, (s.rcd r).place ≠ .pending k) : Unnamed r s :=
  fun _ e => (h.waits e).pending.elim hp

/-- An entry changes, and names no other record than before. -/
theorem PointersLawful.modLevel (h : PointersLawful s) (a : Addr) {f : LevelEntry → LevelEntry}
    (hf : ∀ q, (f (s.level a)).pendingRec = some q → (s.level a).pendingRec = some q) :
    PointersLawful (s.modLevel a f) := by
  refine h.mono (fun i q e => ?_) fun _ _ _ hw => hw
  obtain ⟨b, rfl⟩ := exists_levelIndex i
  rw [names_level, State.modLevel_level] at e
  split at e
  · rename_i hb
    subst hb
    exact hf q e
  · exact e

end

/-! ## Operations that touch neither records nor entries -/

section

variable (s : State)

theorem samePointers_modLink (l : LinkId) (f : Link → Link) : SamePointers s (s.modLink l f) := ⟨rfl, rfl⟩

theorem samePointers_modPort (c : ConsumerIdx) (f : Port → Port) : SamePointers s (s.modPort c f) := ⟨rfl, rfl⟩

theorem samePointers_modClass (k : ClassIdx) (f : ClassRecord → ClassRecord) : SamePointers s (s.modClass k f) :=
  ⟨rfl, rfl⟩

theorem samePointers_placeNotice : SamePointers s (placeNotice s) := by
  rw [placeNotice_frame]
  exact ⟨rfl, rfl⟩

/-- The Notice Unit's test at the end of a transition. -/
theorem SamePointers.placeNotice {s u : State} (h : SamePointers s u) : SamePointers s (placeNotice u) :=
  h.trans (samePointers_placeNotice u)

theorem samePointers_applyHold : SamePointers s (applyHold s) := by
  rw [applyHold_frame]
  exact ⟨rfl, rfl⟩

theorem samePointers_drainCheck (k : ClassIdx) : SamePointers s (drainCheck k s) := by
  rw [drainCheck_frame]
  exact ⟨rfl, rfl⟩

theorem samePointers_renewLease (c : ConsumerIdx) : SamePointers s (renewLease c s) := by
  rw [renewLease_frame]
  exact ⟨rfl, rfl⟩

theorem samePointers_freeLeaseOf (c : ConsumerIdx) : SamePointers s (freeLeaseOf c s) := by
  rw [freeLeaseOf_frame]
  exact ⟨rfl, rfl⟩

theorem samePointers_suspectCheck (c : ConsumerIdx) : SamePointers s (suspectCheck c s) := by
  unfold suspectCheck
  split <;> exact ⟨rfl, rfl⟩

end

/-! ## Freeing, abandoning, returning -/

section

variable {s : State} {r : RecIdx}

theorem lawful_clearPointer (r : RecIdx) (h : PointersLawful s) : PointersLawful (clearPointer r s) :=
  h.modLevel _ fun q e => by
    split at e
    · cases e
    · exact e

/-- Clearing the pointer of its own channel leaves no pointer to a record, since no other entry can name it (R63). -/
theorem unnamed_clearPointer (r : RecIdx) (h : PointersLawful s) : Unnamed r (clearPointer r s) := fun i e => by
  obtain ⟨b, rfl⟩ := exists_levelIndex i
  have hc : (clearPointer r s).level b = if b = (s.rcd r).addr ∧ (s.level b).pendingRec = some r then
      { s.level b with pendingRec := none } else s.level b := clearPointer_cleared r s b
  rw [names_level, hc] at e
  split at e
  · cases e
  · rename_i hne
    exact hne ⟨(levelIndex_inj.mp (h.waits (names_level.mpr e)).addr).symm, e⟩

/-- To the pointers an abandonment is the clearing of one. -/
theorem samePointers_recordAbandon (k : ClassIdx) (why : Reason) :
    SamePointers (clearPointer r s) (recordAbandon r k why s) := by
  rw [recordAbandon_eq]
  exact ⟨rfl, rfl⟩

theorem lawful_recordAbandon (k : ClassIdx) (why : Reason) (h : PointersLawful s) :
    PointersLawful (recordAbandon r k why s) := (samePointers_recordAbandon k why).lawful (lawful_clearPointer r h)

theorem unnamed_recordAbandon (k : ClassIdx) (why : Reason) (h : PointersLawful s) :
    Unnamed r (recordAbandon r k why s) := fun i e => by
  unfold Names at e
  rw [(samePointers_recordAbandon k why).levels] at e
  exact unnamed_clearPointer r h i e

theorem freeRecord_onlyRecord (r : RecIdx) (s : State) : OnlyRecord r s (freeRecord r s) := fun q hq => by
  have hd (k : ClassIdx) (u : State) : (applyHold (drainCheck k u)).rcd q = u.rcd q := by
    rw [applyHold_frame, drainCheck_frame]
    rfl
  rcases place_cases s r with h | ⟨k, h⟩ | ⟨k, c, h⟩
  · rw [freeRecord_eq_free h]
  · rw [freeRecord_eq_pending h, hd, freePending_rcd, if_neg hq]
  · rw [freeRecord_eq_dispatched h, hd, freeDispatched_rcd, if_neg hq]

/-- A record that is freed has no pointer to it any more. -/
theorem lawful_freeRecord (h : PointersLawful s) (hu : Unnamed r s) : PointersLawful (freeRecord r s) :=
  h.of_unnamed hu (by rw [freeRecord_frame]) (freeRecord_onlyRecord r s)

theorem lawful_abandon (r : RecIdx) (why : Reason) (h : PointersLawful s) : PointersLawful (abandon r why s) := by
  unfold abandon
  split
  · exact h
  · exact lawful_freeRecord (lawful_recordAbandon _ why h) (unnamed_recordAbandon _ why h)

theorem lawful_returnRecord (r : RecIdx) (h : PointersLawful s) : PointersLawful (returnRecord r s) := by
  rcases place_cases s r with hr | ⟨k, hr⟩ | ⟨k, c, hr⟩
  · unfold returnRecord
    rwa [hr]
  · unfold returnRecord
    rwa [hr]
  · refine h.of_unnamed (r := r) (h.unnamed_of_place hr.not_pending) (by rw [returnRecord_frame]) fun q hq => ?_
    rw [returnRecord_rcd hr, if_neg hq]

/-- A record changes in what no pointer asks of it. -/
theorem lawful_modRec {f : EventRecord → EventRecord} (h : PointersLawful s)
    (hf : ∀ i, WaitsFor i (s.rcd r) → WaitsFor i (f (s.rcd r))) : PointersLawful (s.modRec r f) :=
  h.of_waiting rfl fun i q hw => by
    rw [State.modRec_rcd]
    split
    · rename_i e
      subst e
      exact hf i hw
    · exact hw

theorem lawful_chargeFailure (c : ConsumerIdx) (r : RecIdx) (h : PointersLawful s) :
    PointersLawful (chargeFailure c r s) := lawful_modRec h fun _ ⟨a, b, k, d⟩ => ⟨a, b, k, d⟩

theorem lawful_markTried (c : ConsumerIdx) (r : RecIdx) (h : PointersLawful s) : PointersLawful (markTried c r s) :=
  lawful_modRec h fun _ ⟨a, b, k, d⟩ => ⟨a, b, k, d⟩

theorem lawful_failureDecision (k : ClassIdx) (r : RecIdx) (h : PointersLawful s) :
    PointersLawful (failureDecision k r s) := by
  rcases failureDecision_cases k r s with ⟨-, e⟩ | ⟨-, -, e⟩ | ⟨-, -, e⟩ <;> rw [e]
  · exact lawful_abandon r _ h
  · exact lawful_abandon r _ h
  · exact lawful_returnRecord r h

theorem lawful_abandonAll (rs : List RecIdx) (why : Reason) (h : PointersLawful s) :
    PointersLawful (abandonAll rs why s) :=
  List.foldlRecOn (motive := PointersLawful) rs _ h fun _ hu r _ => lawful_abandon r why hu

theorem lawful_returnAll (c : ConsumerIdx) (h : PointersLawful s) : PointersLawful (returnAll c s) := by
  have ha : PointersLawful ((purgedOf s c).foldl (fun t r => abandon r .purged (markTried c r t)) s) :=
    List.foldlRecOn (motive := PointersLawful) _ _ h fun _ hu r _ => lawful_abandon r _ (lawful_markTried c r hu)
  have hb : PointersLawful (claimedBack c s) :=
    List.foldrRecOn (motive := PointersLawful) _ _ ha fun _ hu r _ => lawful_returnRecord r hu
  rw [returnAll_eq]
  exact (samePointers_modPort _ _ _).lawful hb

theorem lawful_closeClass (k : ClassIdx) (purge : Bool) (h : PointersLawful s) : PointersLawful (closeClass k purge s) := by
  have hd : PointersLawful (s.modClass k fun c => { c with state := .draining, purge := purge }) :=
    (samePointers_modClass s k _).lawful h
  unfold closeClass
  dsimp only
  apply (samePointers_drainCheck _ k).lawful
  split
  · exact lawful_abandonAll _ _ hd
  · exact hd

/-! ## Grants and sends -/

theorem lawful_grantRecord (k : ClassIdx) (c : ConsumerIdx) (r : RecIdx) (rest : List RecIdx) (h : PointersLawful s) :
    PointersLawful (grantRecord k c r rest s) := by
  refine (lawful_clearPointer r h).of_unnamed (unnamed_clearPointer r h) (by rw [grantRecord_eq]) fun q hq => ?_
  rw [grantRecord_rcd, if_neg hq]
  rfl

theorem lawful_deliverSent (c : ConsumerIdx) (d : Deliver) (h : PointersLawful s) : PointersLawful (deliverSent c d s) := by
  unfold deliverSent
  split
  · rename_i hq
    split
    · refine h.of_unnamed (r := d.tag.index) (h.unnamed_of_place (by simp [hq])) rfl fun q hne => ?_
      rw [sendRecord_rcd, if_neg hne]
    · exact h
  all_goals exact h

/-! ## Steering and Admission -/

section

variable {x : Arrival} {k : ClassIdx} {rest : List RecIdx}

/-- A record filled with a LEVEL event waits for the channel of that event. -/
theorem fillRecord_waits (generation : Fin 8) (k : ClassIdx) (hx : x.kind = .level) :
    WaitsFor (levelIndex x.addr) (fillRecord generation k x) := ⟨⟨k, rfl⟩, rfl, hx, rfl⟩

theorem lawful_setPointer (h : PointersLawful s) (hw : x.kind = .level → WaitsFor (levelIndex x.addr) (s.rcd r)) :
    PointersLawful (setPointer k x r s) := by
  rw [pointersLawful_iff]
  intro i q e
  obtain ⟨b, rfl⟩ := exists_levelIndex i
  have hr : (setPointer k x r s).rcd q = s.rcd q := by rw [setPointer_eq]; rfl
  rw [names_level, setPointer_level] at e
  rw [hr]
  split at e
  · rename_i hb
    obtain ⟨rfl, hx, -⟩ := hb
    obtain rfl : r = q := Option.some.inj e
    exact hw hx
  · exact h.waits (names_level.mpr e)

/-- The record at the head of the free list is FREE, so nothing names it before it is filled. -/
theorem lawful_allocate (hp : Placed s) (h : PointersLawful s) (hf : s.freeList = r :: rest) :
    PointersLawful (allocate k x r rest s) := by
  have hs : PointersLawful (storeHead k x r rest s) :=
    h.of_unnamed (r := r) (h.unnamed_of_place (by simp [hp.head_free hf])) rfl fun q hq => by
      rw [storeHead_rcd, if_neg hq]
  have hr : (applyHold (storeHead k x r rest s)).rcd r = fillRecord (s.rcd r).generation k x := by
    rw [applyHold_frame]
    exact (storeHead_rcd r).trans (if_pos rfl)
  rw [allocate_eq]
  refine lawful_setPointer ((samePointers_applyHold _).lawful hs) fun hx => ?_
  rw [hr]
  exact fillRecord_waits _ k hx

theorem refillHead_levels (s : State) : (refillHead k x r rest s).levels = s.levels := rfl

/-- The record that is displaced loses its pointer before it is filled anew. -/
theorem lawful_displace (h : PointersLawful s) : PointersLawful (displace k x r rest s) := by
  have hs : PointersLawful (refillHead k x r rest (recordAbandon r k .displaced s)) :=
    (lawful_recordAbandon k _ h).of_unnamed (unnamed_recordAbandon k _ h) (refillHead_levels _) fun q hq => by
      rw [refillHead_rcd, if_neg hq]
  rw [displace_eq]
  refine lawful_setPointer hs fun hx => ?_
  rw [refillHead_rcd, if_pos rfl]
  exact fillRecord_waits _ k hx

theorem lawful_overflow (k : ClassIdx) (x : Arrival) (h : PointersLawful s) : PointersLawful (overflow k x s) := by
  have hr : PointersLawful (refuse k s) := (samePointers_modClass s k _).lawful h
  unfold overflow
  split
  · exact hr
  · split
    · exact hr
    · exact lawful_displace h

theorem lawful_storeTests (k : ClassIdx) (x : Arrival) (hp : Placed s) (h : PointersLawful s) :
    PointersLawful (storeTests k x s) := by
  unfold storeTests
  split
  · exact lawful_overflow k x h
  · rename_i hf
    split
    · exact lawful_allocate hp h hf
    · exact lawful_overflow k x h

theorem lawful_coalesce (r : RecIdx) (datum : Half) (stamp : Stamp) (h : PointersLawful s) :
    PointersLawful (coalesce r datum stamp s) := by
  unfold coalesce
  split
  · split
    · exact lawful_modRec h fun _ ⟨a, b, k, d⟩ => ⟨a, b, k, d⟩
    · exact h
  all_goals exact h

theorem lawful_levelReport (k : ClassIdx) (x : Arrival) (hp : Placed s) (h : PointersLawful s) :
    PointersLawful (levelReport k x s) := by
  have hl : PointersLawful (s.modLevel x.addr fun _ => (reportEntry s k x.addr (levelOf x.datum)).1) :=
    h.modLevel x.addr fun _ e => reportEntry_names e
  unfold levelReport
  dsimp only
  split
  · exact hl
  · exact (samePointers_modClass _ k _).lawful (lawful_coalesce _ _ _ hl)
  · exact lawful_storeTests k x ((SameStore.modLevel (y := none) s _ _).placed hp) hl

theorem lawful_takeArrival (x : Arrival) (hp : Placed s) (h : PointersLawful s) : PointersLawful (takeArrival s x) := by
  have hr (k : ClassIdx) : PointersLawful (refuse k s) := (samePointers_modClass s k _).lawful h
  apply (samePointers_placeNotice _).lawful
  unfold steer
  split
  · exact SamePointers.lawful ⟨rfl, rfl⟩ h
  · unfold takeClassified
    split
    · exact hr _
    · exact hr _
    · split
      · exact lawful_levelReport _ x hp h
      · exact lawful_storeTests _ x hp h
      · exact lawful_storeTests _ x hp h

end

end

end Sys2Proof.Machine
end

section
/-! # Pointers of the Level Image along every command: O57

A command that takes cells from Steering needs the placement of the records beside the law of the pointers: a record that is
allocated stands at the head of the free list, so it is FREE and no entry names it. -/

namespace Sys2Proof.Machine

/-- Every record stands in the collection of its state, and every pointer names a record that waits. -/
structure Pointed (s : State) : Prop where
  placed : Placed s
  lawful : PointersLawful s

section

variable {s t : State}

/-- The store stays as it is, and the pointers to it stay lawful. -/
theorem Pointed.sameStore (h : Pointed s) (e : SameStore none s t) (hl : PointersLawful t) : Pointed t :=
  ⟨e.placed h.placed, hl⟩

theorem Pointed.modLink (h : Pointed s) (l : LinkId) (f : Link → Link) : Pointed (s.modLink l f) :=
  h.sameStore (.modLink s l f) h.lawful

/-! ## Links -/

theorem pointed_takeArrivals (xs : List Arrival) (h : Pointed s) : Pointed (xs.foldl takeArrival s) :=
  List.foldlRecOn (motive := Pointed) xs _ h fun u hu x _ =>
    ⟨(moves_takeArrival u x).placed hu.placed, lawful_takeArrival x hu.placed hu.lawful⟩

theorem pointed_catchUp (n : Fin 4) (h : Pointed s) : Pointed (catchUp n s) := by
  unfold catchUp
  split
  · exact h
  · exact pointed_takeArrivals _ (h.sameStore (.ofFields rfl rfl rfl rfl rfl ⟨rfl, rfl, rfl⟩) h.lawful)

theorem lawful_passEvent (x : Arrival) (h : Pointed s) : PointersLawful (passEvent x s) := by
  unfold passEvent
  dsimp only
  split
  · exact h.lawful
  · have hc : Pointed (catchUp x.addr.link { s with late := s.late.tail }) :=
      pointed_catchUp _ (h.sameStore (.ofFields rfl rfl rfl rfl rfl ⟨rfl, rfl, rfl⟩) h.lawful)
    exact lawful_takeArrival x hc.placed hc.lawful

/-- The entries of a source link that has left UP keep their pending records (R65). -/
theorem lawful_resetLevels (n : Fin 4) (h : PointersLawful s) : PointersLawful (resetLevels n s) := by
  refine h.mono (fun i r e => ?_) fun _ _ _ hw => hw
  have hi : Tab.nth (resetLevels n s).levels i = _ := Tab.nth_eachIdx _ _ i
  unfold Names at e ⊢
  rw [hi] at e
  split at e <;> exact e

theorem lawful_linkLeavesUp (l : LinkId) (h : Pointed s) : PointersLawful (linkLeavesUp l s) := by
  cases l with
  | source n =>
    have hw := h.modLink (.source n) fun x => { x with wire := .quiet }
    have hr : Pointed (resetLevels n (s.modLink (.source n) fun x => { x with wire := .quiet })) :=
      hw.sameStore (.ofFields rfl rfl rfl rfl rfl ⟨rfl, rfl, rfl⟩) (lawful_resetLevels n hw.lawful)
    exact (pointed_catchUp n hr).lawful
  | consumer c =>
    have hd : PointersLawful (s.modPort c fun p => { p with state := p.state.detach }) :=
      (samePointers_modPort s c _).lawful h.lawful
    have hp : PointersLawful (portLoss c s) := (samePointers_modPort _ c _).lawful (lawful_returnAll c hd)
    exact ((samePointers_modLink _ _ _).trans (samePointers_freeLeaseOf _ c)).placeNotice.lawful hp

theorem samePointers_goodAligning (l : LinkId) (s : State) : SamePointers s (goodAligning l s) := by
  unfold goodAligning
  split
  · cases l <;> exact ⟨rfl, rfl⟩
  · exact ⟨rfl, rfl⟩

theorem lawful_goodCell {k : State → State} (hk : ∀ {u}, Pointed u → PointersLawful (k u)) (l : LinkId)
    (h : Pointed s) : PointersLawful (goodCell l k s) := by
  unfold goodCell
  split
  · exact h.lawful
  · exact (samePointers_goodAligning l s).lawful h.lawful
  · exact hk (h.modLink l _)

theorem lawful_passOn {k : State → State} (hk : ∀ {u}, Pointed u → PointersLawful (k u)) (l : LinkId)
    (h : Pointed s) : PointersLawful (passOn l k s) := by
  refine lawful_goodCell (fun hu => ?_) l h
  split
  · exact (hu.modLink l _).lawful
  · exact hk hu

theorem lawful_settle (l : LinkId) (h : Pointed s) : PointersLawful (settle l s) := by
  cases l with
  | source n => exact (pointed_catchUp n h).lawful
  | consumer c => exact h.lawful

theorem lawful_takeMalformed (l : LinkId) (h : Pointed s) : PointersLawful (takeMalformed l s) := by
  refine lawful_goodCell (fun hu => ?_) l h
  exact lawful_settle l (hu.sameStore (.ofFields rfl rfl rfl rfl rfl ⟨rfl, rfl, rfl⟩) hu.lawful)

theorem lawful_badCellUp (l : LinkId) (h : Pointed s) : PointersLawful (badCellUp l s) := by
  unfold badCellUp
  dsimp only
  split
  · have hd := lawful_linkLeavesUp l ((h.modLink l fun x => { x with badCells := satUp x.badCells }).modLink l
      fun x => { x with state := .down, alignCount := 0, badRun := 0 })
    split
    · exact SamePointers.lawful ⟨rfl, rfl⟩ hd
    · exact hd
  · exact h.lawful

/-! ## Consumer cells, deadlines and slots -/

/-- A completed record was dispatched, so it has no pointer to it. -/
theorem lawful_takeAckTag (c : ConsumerIdx) (tag : Tag) (h : PointersLawful s) : PointersLawful (takeAckTag c s tag) := by
  unfold takeAckTag
  split
  · rename_i ha
    have hu : Unnamed tag.index s := h.unnamed_of_place (acceptedClass_some_iff.mp ha).1.not_pending
    exact (samePointers_placeNotice _).lawful (lawful_freeRecord (SamePointers.lawful ⟨rfl, rfl⟩ h) hu)
  · exact (samePointers_modPort s c _).lawful h

theorem lawful_takeAckTags (c : ConsumerIdx) (tags : List Tag) (h : PointersLawful s) :
    PointersLawful (tags.foldl (takeAckTag c) s) :=
  List.foldlRecOn (motive := PointersLawful) tags _ h fun _ hu tag _ => lawful_takeAckTag c tag hu

/-- A charged failure, its consumer's counters changed first. -/
theorem lawful_failure (c : ConsumerIdx) (k : ClassIdx) (r : RecIdx) (f : Port → Port) (h : PointersLawful s) :
    PointersLawful (failureDecision k r (chargeFailure c r (s.modPort c f))) :=
  lawful_failureDecision k r (lawful_chargeFailure c r ((samePointers_modPort s c f).lawful h))

theorem samePointers_consumerSlot (c : ConsumerIdx) (s : State) : SamePointers s (consumerSlot c s) := by
  unfold consumerSlot
  split
  · exact ⟨rfl, rfl⟩
  · split
    · exact SamePointers.placeNotice ⟨rfl, rfl⟩
    · split <;> exact ⟨rfl, rfl⟩

/-! ## Requests -/

/-- Carrying out the operation keeps the pointers lawful. -/
def OpLawful (op : State → Answer) : Prop := ∀ {s}, Pointed s → PointersLawful (op s).state

/-- Carrying out the operation touches neither records nor entries. -/
def OpSamePointers (op : State → Answer) : Prop := ∀ s, SamePointers s (op s).state

theorem OpSamePointers.lawful {op : State → Answer} (h : OpSamePointers op) : OpLawful op := fun hs =>
  (h _).lawful hs.lawful

theorem OpLawful.holderOnly {op : State → Answer} (ho : OpLawful op) (c : ConsumerIdx) : OpLawful (holderOnly c op) :=
  fun h => by
    unfold Machine.holderOnly
    split
    · exact ho h
    · exact h.lawful

theorem lawful_carryOut {op : State → Answer} (ho : OpLawful op) (c : ConsumerIdx) (seq : Byte) (h : Pointed s) :
    PointersLawful (carryOut c seq op s) := by
  unfold carryOut
  dsimp only
  split
  · exact ho h
  · exact (samePointers_renewLease _ c).lawful (SamePointers.lawful ⟨rfl, rfl⟩ (ho h))

theorem lawful_request {op : State → Answer} (ho : OpLawful op) (c : ConsumerIdx) (seq : Byte) (h : Pointed s) :
    PointersLawful (request c seq op s) := by
  refine lawful_passOn (fun hu => ?_) _ h
  unfold intake
  split
  · exact hu.lawful
  · split
    · exact lawful_carryOut ho c seq hu
    · split
      · exact (samePointers_renewLease _ c).lawful (SamePointers.lawful ⟨rfl, rfl⟩ hu.lawful)
      · exact lawful_carryOut ho c seq hu

theorem opSamePointers_claim (c : ConsumerIdx) : OpSamePointers (opClaim c) := fun s => by
  unfold opClaim
  dsimp only
  split
  · exact SamePointers.placeNotice ⟨rfl, rfl⟩
  · split <;> exact .refl s

theorem opSamePointers_read (table : Byte) (index : Half) (page : Byte) : OpSamePointers (opRead table index page) :=
  fun s => by
    unfold opRead
    split
    · exact .refl s
    · split <;> exact .refl s

theorem opSamePointers_writeDevice (index : Half) (page : Byte) (image : Page) :
    OpSamePointers (opWriteDevice index page image) := fun s => by
  unfold opWriteDevice
  split
  · split
    · exact .refl s
    · split
      · exact .refl s
      · rename_i d _
        have hd : SamePointers s { s with device := d } := ⟨rfl, rfl⟩
        exact (hd.trans (samePointers_applyHold _)).placeNotice
  · exact .refl s

theorem opSamePointers_writeSteering (which : Bank) (index : Half) (page : Byte) (image : Page) :
    OpSamePointers (opWriteSteering which index page image) := fun s => by
  unfold opWriteSteering
  split
  · split
    · exact .refl s
    · split
      · exact .refl s
      · split
        · exact .refl s
        · cases which <;> exact ⟨rfl, rfl⟩
  · exact .refl s

theorem opSamePointers_writeClass (index : Half) (page : Byte) (image : Page) :
    OpSamePointers (opWriteClass index page image) := fun s => by
  unfold opWriteClass
  split
  · split
    · exact .refl s
    · split
      · exact .refl s
      · split <;> exact ⟨rfl, rfl⟩
  · exact .refl s

theorem opSamePointers_writeConsumer (index : Half) (page : Byte) (image : Page) :
    OpSamePointers (opWriteConsumer index page image) := fun s => by
  unfold opWriteConsumer
  split
  · split
    · exact .refl s
    · split
      · exact .refl s
      · split <;> exact ⟨rfl, rfl⟩
  · exact .refl s

theorem opSamePointers_write (table : Byte) (index : Half) (page : Byte) (image : Page) :
    OpSamePointers (opWrite table index page image) := fun s => by
  unfold opWrite
  split
  · exact .refl s
  · split
    · exact opSamePointers_writeDevice index page image s
    · exact opSamePointers_writeSteering _ index page image s
    · exact opSamePointers_writeClass index page image s
    · exact opSamePointers_writeConsumer index page image s
    all_goals exact .refl s

theorem opSamePointers_swap : OpSamePointers opSwap := fun s => by
  unfold opSwap
  split <;> exact ⟨rfl, rfl⟩

theorem opSamePointers_classEnable (index : Half) : OpSamePointers (opClassEnable index) := fun s => by
  unfold opClassEnable
  split
  · unfold enableClass
    split
    · split <;> exact ⟨rfl, rfl⟩
    all_goals exact ⟨rfl, rfl⟩
  · exact .refl s

theorem opSamePointers_consumerEnable (index : Half) : OpSamePointers (opConsumerEnable index) := fun s => by
  unfold opConsumerEnable
  split
  · unfold enableConsumer
    split <;> exact ⟨rfl, rfl⟩
  · exact .refl s

theorem opSamePointers_takeLog (index : Half) (page : Byte) : OpSamePointers (opTakeLog index page) := fun s => by
  unfold opTakeLog
  split
  · split
    · exact .refl s
    · split
      · exact .refl s
      · dsimp only [okay]
        split <;> exact ⟨rfl, rfl⟩
  · exact .refl s

theorem opLawful_classDisable (index : Half) (flag : Byte) : OpLawful (opClassDisable index flag) := fun {s} h => by
  have hc (k : ClassIdx) (purge : Bool) : PointersLawful (placeNotice (closeClass k purge s)) :=
    (samePointers_placeNotice _).lawful (lawful_closeClass k purge h.lawful)
  unfold opClassDisable
  split
  · split
    · exact h.lawful
    · unfold disableClass
      split
      · exact h.lawful
      · exact hc _ _
      · split
        · exact hc _ _
        · exact h.lawful
  · exact h.lawful

theorem opLawful_consumerDisable (index : Half) : OpLawful (opConsumerDisable index) := fun {s} h => by
  have hp (n : ConsumerIdx) : PointersLawful (portDisable n s) :=
    have ho : PointersLawful (s.modPort n fun p => { p with state := .off }) :=
      (samePointers_modPort s n _).lawful h.lawful
    (samePointers_modPort _ n _).lawful (lawful_returnAll n ho)
  unfold opConsumerDisable
  split
  · unfold disableConsumer
    split
    · exact h.lawful
    · exact (samePointers_placeNotice _).lawful (hp _)
  · exact h.lawful

/-- A soft restart leaves no pointer, whatever the cells that were taken before it left (R66). -/
theorem lawful_emptyBlocks (job : RestartJob) (s : State) : PointersLawful (emptyBlocks job s) :=
  .of_blank fun i => by
    have hi : Tab.nth (emptyBlocks job s).levels i = LevelEntry.por := Tab.nth_all _ i
    rw [hi]
    rfl

theorem opLawful_restart (c : ConsumerIdx) (seq flag : Byte) : OpLawful (opRestart c seq flag) := fun h => by
  unfold opRestart
  split
  · exact h.lawful
  · split
    · exact h.lawful
    · exact lawful_emptyBlocks _ _

theorem samePointers_finishRestart (job : RestartJob) (s : State) : SamePointers s (finishRestart job s) := by
  unfold finishRestart
  dsimp only
  refine SamePointers.trans ?_ (samePointers_applyHold _)
  split <;> exact ⟨rfl, rfl⟩

/-! ## Every command -/

theorem lawful_execPor (h : execPor s = .next t) : PointersLawful t := by
  obtain rfl := Host.Outcome.next.inj h
  refine .of_blank fun i => ?_
  have hi : Tab.nth State.inPor.levels i = LevelEntry.por := Tab.nth_all _ i
  dsimp only
  rw [hi]
  rfl

theorem lawful_execResetRelease (hs : Pointed s) (h : execResetRelease s = .next t) : PointersLawful t := by
  obtain rfl := Host.Outcome.next.inj h
  split <;> exact hs.lawful

theorem lawful_execSignalPresent {l : LinkId} (hs : Pointed s) (h : execSignalPresent l s = .next t) :
    PointersLawful t := by
  obtain rfl := Host.Outcome.next.inj h
  split <;> exact hs.lawful

theorem lawful_execLossOfSignal {l : LinkId} (hs : Pointed s) (h : execLossOfSignal l s = .next t) :
    PointersLawful t := by
  have hd := (hs.modLink l fun x => { x with signal := false }).modLink l
    fun x => { x with state := .down, alignCount := 0, badRun := 0 }
  obtain rfl := Host.Outcome.next.inj h
  split
  · exact hs.lawful
  · exact hd.lawful
  · exact lawful_linkLeavesUp l hd

theorem lawful_execGoodCellAligning {l : LinkId} (hs : Pointed s) (h : execGoodCellAligning l s = .next t) :
    PointersLawful t := by
  obtain rfl := Host.Outcome.next.inj h
  split
  · exact hs.lawful
  · exact (samePointers_goodAligning l s).lawful hs.lawful
  · exact hs.lawful

theorem lawful_execBadCell {l : LinkId} (hs : Pointed s) (h : execBadCell l s = .next t) : PointersLawful t := by
  obtain rfl := Host.Outcome.next.inj h
  split
  · exact hs.lawful
  · exact hs.lawful
  · exact lawful_badCellUp l hs

theorem lawful_execMalformedCell {l : LinkId} (hs : Pointed s) (h : execMalformedCell l s = .next t) :
    PointersLawful t := by
  obtain rfl := Host.Outcome.next.inj h
  exact lawful_takeMalformed l hs

theorem lawful_execIdle {l : LinkId} (hs : Pointed s) (h : execIdle l s = .next t) : PointersLawful t := by
  obtain rfl := Host.Outcome.next.inj h
  exact lawful_goodCell (lawful_settle l) l hs

theorem lawful_execEvent {n : Fin 4} {m : Fin 16} {ch : Fin 64} {kind : Kind} {datum : Half} (hs : Pointed s)
    (h : execEvent n m ch kind datum s = .next t) : PointersLawful t := by
  obtain rfl := Host.Outcome.next.inj h
  split
  · exact lawful_passOn (fun hu => lawful_passEvent _ hu) _ hs
  · exact lawful_takeMalformed _ hs

theorem lawful_execAck {c : Fin 6} {tags : List Tag} (hs : Pointed s) (h : execAck c tags s = .next t) :
    PointersLawful t := by
  obtain rfl := Host.Outcome.next.inj h
  split
  · exact lawful_passOn (fun hu => lawful_takeAckTags c tags hu.lawful) _ hs
  · exact lawful_takeMalformed _ hs

theorem lawful_execNackBusy {c : Fin 6} {tag : Tag} (hs : Pointed s) (h : execNackBusy c tag s = .next t) :
    PointersLawful t := by
  obtain rfl := Host.Outcome.next.inj h
  refine lawful_passOn (fun hu => ?_) _ hs
  split
  · exact (samePointers_placeNotice _).lawful (lawful_failure c _ _ _ hu.lawful)
  · exact hu.lawful

theorem lawful_execNackReject {c : Fin 6} {tag : Tag} (hs : Pointed s) (h : execNackReject c tag s = .next t) :
    PointersLawful t := by
  obtain rfl := Host.Outcome.next.inj h
  refine lawful_passOn (fun hu => ?_) _ hs
  split
  · exact (samePointers_placeNotice _).lawful
      (lawful_abandon _ .rejected ((samePointers_modPort _ c _).lawful hu.lawful))
  · exact hu.lawful

theorem lawful_execLoad {c : Fin 6} {level : Fin 16} (hs : Pointed s) (h : execLoad c level s = .next t) :
    PointersLawful t := by
  obtain rfl := Host.Outcome.next.inj h
  exact lawful_passOn (fun hu => (samePointers_modPort _ c _).lawful hu.lawful) _ hs

theorem lawful_execExpiry {r : Fin 512} (hs : Pointed s) (h : execExpiry r s = .next t) : PointersLawful t := by
  obtain rfl := Host.Outcome.next.inj h
  split
  · split
    · exact (samePointers_placeNotice _).lawful
        ((samePointers_suspectCheck _ _).lawful (lawful_failure _ _ r _ hs.lawful))
    · exact hs.lawful
  all_goals exact hs.lawful

theorem lawful_execGrant (hs : Pointed s) (h : execGrant s = .next t) : PointersLawful t := by
  obtain rfl := Host.Outcome.next.inj h
  split
  · exact hs.lawful
  · split
    · exact hs.lawful
    · exact lawful_grantRecord _ _ _ _ hs.lawful

theorem lawful_execCellSlot {l : LinkId} (hs : Pointed s) (h : execCellSlot l s = .next t) : PointersLawful t := by
  obtain rfl := Host.Outcome.next.inj h
  split
  · exact hs.lawful
  · split
    · exact hs.lawful
    · split
      · exact hs.lawful
      · split
        · exact hs.lawful
        · exact hs.lawful
        · exact (samePointers_consumerSlot _ s).lawful hs.lawful

theorem lawful_execSendCompletion {c : Fin 6} (hs : Pointed s) (h : execSendCompletion c s = .next t) :
    PointersLawful t := by
  obtain rfl := Host.Outcome.next.inj h
  split
  · exact hs.lawful
  · exact hs.lawful
  · split
    · exact lawful_deliverSent c _ (hs.modLink _ _).lawful
    all_goals exact hs.lawful

theorem lawful_execLeaseTimerExpiry (hs : Pointed s) (h : execLeaseTimerExpiry s = .next t) : PointersLawful t := by
  obtain rfl := Host.Outcome.next.inj h
  split
  · exact hs.lawful
  · split <;> exact hs.lawful

theorem lawful_execEndOfRestart (hs : Pointed s) (h : execEndOfRestart s = .next t) : PointersLawful t := by
  obtain rfl := Host.Outcome.next.inj h
  split
  · exact hs.lawful
  · exact (samePointers_finishRestart _ s).lawful hs.lawful

/-- A record that waits has no deadline. -/
theorem EventRecord.elapse_of_waits {i : Fin 4096} {e : EventRecord} (h : WaitsFor i e) : e.elapse = e :=
  EventRecord.elapse_still fun k c d hp => by
    obtain ⟨j, hj⟩ := h.pending
    exact nomatch hj.symm.trans hp

theorem lawful_execTimebaseCount (hs : Pointed s) (h : execTimebaseCount s = .next t) : PointersLawful t := by
  obtain rfl := Host.Outcome.next.inj h
  split
  · exact hs.lawful
  · refine hs.lawful.of_waiting rfl fun i r hw => ?_
    rwa [State.rcd_mk, Tab.nth_each, State.nth_records, EventRecord.elapse_of_waits hw]

/-- A request whose operation keeps the pointers lawful. -/
theorem lawful_of_request {op : State → Answer} (ho : OpLawful op) {c : ConsumerIdx} {seq : Byte} (hs : Pointed s)
    (h : (.next (request c seq op s) : Result) = .next t) : PointersLawful t := by
  obtain rfl := Host.Outcome.next.inj h
  exact lawful_request ho c seq hs

/-- The same for a request that needs the lease. -/
theorem lawful_of_holder_request {op : State → Answer} (ho : OpLawful op) {c : ConsumerIdx} {seq : Byte}
    (hs : Pointed s) (h : (.next (request c seq (holderOnly c op) s) : Result) = .next t) : PointersLawful t :=
  lawful_of_request (ho.holderOnly c) hs h

/-- Every command keeps the pointers lawful. -/
theorem exec_pointersLawful {i : Instr} (hs : Pointed s) (h : exec i s = .next t) : PointersLawful t := by
  cases i with
  | por => exact lawful_execPor h
  | resetRelease => exact lawful_execResetRelease hs h
  | signalPresent l => exact lawful_execSignalPresent hs h
  | lossOfSignal l => exact lawful_execLossOfSignal hs h
  | goodCellAligning l => exact lawful_execGoodCellAligning hs h
  | badCell l => exact lawful_execBadCell hs h
  | malformedCell l => exact lawful_execMalformedCell hs h
  | idle l => exact lawful_execIdle hs h
  | event n m ch kind datum => exact lawful_execEvent hs h
  | ack c tags => exact lawful_execAck hs h
  | nackBusy c tag => exact lawful_execNackBusy hs h
  | nackReject c tag => exact lawful_execNackReject hs h
  | load c level => exact lawful_execLoad hs h
  | expiry r => exact lawful_execExpiry hs h
  | grant => exact lawful_execGrant hs h
  | cellSlot l => exact lawful_execCellSlot hs h
  | sendCompletion c => exact lawful_execSendCompletion hs h
  | leaseTimerExpiry => exact lawful_execLeaseTimerExpiry hs h
  | endOfRestart => exact lawful_execEndOfRestart hs h
  | timebaseCount => exact lawful_execTimebaseCount hs h
  | badOp c seq op => exact lawful_of_request (OpSamePointers.lawful fun u => .refl u) hs h
  | claim c seq => exact lawful_of_request (opSamePointers_claim c).lawful hs h
  | read c seq table index page => exact lawful_of_request (opSamePointers_read table index page).lawful hs h
  | release c seq => exact lawful_of_holder_request (OpSamePointers.lawful fun _ => ⟨rfl, rfl⟩) hs h
  | write c seq table index page image =>
    exact lawful_of_holder_request (opSamePointers_write table index page image).lawful hs h
  | writeDevice c seq index page image =>
    exact lawful_of_holder_request (opSamePointers_writeDevice index page image).lawful hs h
  | writeSteering c seq which index page image =>
    exact lawful_of_holder_request (opSamePointers_writeSteering which index page image).lawful hs h
  | writeClass c seq index page image =>
    exact lawful_of_holder_request (opSamePointers_writeClass index page image).lawful hs h
  | writeConsumer c seq index page image =>
    exact lawful_of_holder_request (opSamePointers_writeConsumer index page image).lawful hs h
  | swap c seq => exact lawful_of_holder_request opSamePointers_swap.lawful hs h
  | classEnable c seq index => exact lawful_of_holder_request (opSamePointers_classEnable index).lawful hs h
  | classDisable c seq index flag => exact lawful_of_holder_request (opLawful_classDisable index flag) hs h
  | consumerEnable c seq index => exact lawful_of_holder_request (opSamePointers_consumerEnable index).lawful hs h
  | consumerDisable c seq index => exact lawful_of_holder_request (opLawful_consumerDisable index) hs h
  | setTime c seq value => exact lawful_of_holder_request (OpSamePointers.lawful fun _ => ⟨rfl, rfl⟩) hs h
  | takeLog c seq index page => exact lawful_of_holder_request (opSamePointers_takeLog index page).lawful hs h
  | clearCounts c seq => exact lawful_of_holder_request (OpSamePointers.lawful fun _ => ⟨rfl, rfl⟩) hs h
  | freeze c seq => exact lawful_of_holder_request (OpSamePointers.lawful fun _ => ⟨rfl, rfl⟩) hs h
  | restart c seq flag => exact lawful_of_holder_request (opLawful_restart c seq flag) hs h

end

/-- Settles O57: the command at the front of the queue is carried out in a state that differs in the queue alone. -/
theorem everyStepKeepsPointersLawful : Obligations.EveryStepKeepsPointersLawful := by
  intro s t hp hl h
  unfold step at h
  split at h
  · exact Host.Outcome.next.inj h ▸ hl
  · have hq (q : List Instr) : Pointed { s with pending := q } :=
      Pointed.sameStore ⟨hp, hl⟩ (.ofFields rfl rfl rfl rfl rfl ⟨rfl, rfl, rfl⟩) hl
    exact exec_pointersLawful (hq _) h

end Sys2Proof.Machine
end

section
/-! # The confirmation filter: O20 -/

namespace Sys2Proof.Machine

section

variable {e : LevelEntry} {v : Level} {n : Fin 5}

/-- The number of reports of level `v` in a row that an entry has seen once it takes another (R58). -/
def LevelEntry.seen (e : LevelEntry) (v : Level) : Nat := if e.candidate = some v then e.count.val + 1 else 1

/-- A report of the confirmed level ends the count of any other. -/
theorem levelFilter_of_confirmed (h : e.confirmed = some v) :
    levelFilter e v n = ({ e with candidate := none, count := 0 }, false) := if_pos h

/-- A report that completes the count confirms its level. -/
theorem levelFilter_of_enough (h : e.confirmed ≠ some v) (hn : n.val ≤ e.seen v) :
    levelFilter e v n = ({ e with confirmed := some v, candidate := none, count := 0 }, true) :=
  (if_neg h).trans (dif_pos hn)

/-- A report that does not complete the count is counted. -/
theorem levelFilter_of_few (h : e.confirmed ≠ some v) (hn : e.seen v < n.val) :
    levelFilter e v n = ({ e with candidate := some v, count := ⟨e.seen v, by omega⟩ }, false) :=
  (if_neg h).trans (dif_neg (Nat.not_le.mpr hn))

end

/-- Settles O20: a lemma for each row of the filter. -/
theorem confirmationFilter : Obligations.ConfirmationFilter := by
  refine fun e v n _ => ⟨levelFilter_of_confirmed, ?_⟩
  rintro h seen rfl
  refine ⟨levelFilter_of_enough h, fun hn => ?_⟩
  rw [levelFilter_of_few h hn]
  exact ⟨rfl, rfl, rfl⟩

end Sys2Proof.Machine
end

section
/-! # A source link that leaves UP: O10

Both ways out of UP put the link and its Level Image entries in one state, `cutOff`, and the cells that wait are then taken from
it: going on to ALIGNING touches nothing that Steering reads, so it may come before they are taken. -/

namespace Sys2Proof.Machine

section

variable {s : State} {n : Fin 4} {f : Link → Link} {d : Nat}

/-! ## The state that the waiting cells meet -/

/-- Taking the cells that wait on a link is taking each in turn, with none waiting any more. -/
theorem catchUp_eq (n : Fin 4) (s : State) :
    catchUp n s = (Tab.nth s.handed n).foldl takeArrival { s with handed := Tab.put s.handed n [] } := by
  cases h : Tab.nth s.handed n with
  | nil =>
    have hp : Tab.put s.handed n [] = s.handed := Tab.ext_nth fun m => by
      rw [Tab.nth_put]
      split
      · rename_i e
        rw [e, h]
      · rfl
    rw [catchUp_nil h, hp]
    rfl
  | cons x rest => exact catchUp_cons h

/-- Source link `n` has changed by `f`, its entries are reset, none of its cells waits, and `d` free values are drawn. -/
def cutOff (n : Fin 4) (f : Link → Link) (d : Nat) (s : State) : State :=
  { resetLevels n (s.modLink (.source n) f) with handed := Tab.put s.handed n [], freeDraws := d }

theorem cutOff_frame : cutOff n f d s =
    { s with
      links := (cutOff n f d s).links, levels := (cutOff n f d s).levels, handed := (cutOff n f d s).handed
      freeDraws := (cutOff n f d s).freeDraws } := rfl

theorem cutOff_link : (cutOff n f d s).link (.source n) = f (s.link (.source n)) :=
  State.modLink_link_same s (.source n) f

theorem cutOff_onlyLink : OnlyLink (.source n) s (cutOff n f d s) := fun _ hm =>
  State.modLink_link_ne s (.source n) f hm

theorem cutOff_handed (m : Fin 4) :
    Tab.nth (cutOff n f d s).handed m = if m = n then [] else Tab.nth s.handed m := Tab.nth_put _ _ _ _

/-- The 1024 entries of link `n` are those of its channels (R56, R65). -/
theorem cutOff_level (a : Addr) : (cutOff n f d s).level a =
    if a.link = n then { s.level a with confirmed := none, candidate := none, count := 0 } else s.level a := by
  have hl : (cutOff n f d s).level a =
      if (levelIndex a).val / 1024 = n.val then { s.level a with confirmed := none, candidate := none, count := 0 }
      else s.level a := Tab.nth_eachIdx _ _ _
  have hi : (levelIndex a).val / 1024 = n.val ↔ a.link = n := by
    rw [Fin.ext_iff]
    simp only [levelIndex]
    omega
  rw [hl]
  simp only [hi]

/-! ## The two ways out of UP -/

/-- What a source link goes through on its way out of UP with its receiver DOWN. -/
def Link.down (x : Link) : Link := { x with state := .down, alignCount := 0, badRun := 0, wire := .quiet }

theorem linkLeavesUp_source (n : Fin 4) (g : Link → Link) (s : State) :
    linkLeavesUp (.source n) (goDown (.source n) (s.modLink (.source n) g)) =
      (Tab.nth s.handed n).foldl takeArrival (cutOff n (fun x => (g x).down) s.freeDraws s) := by
  have hl : ((goDown (.source n) (s.modLink (.source n) g)).modLink (.source n) fun x => { x with wire := .quiet }) =
      s.modLink (.source n) fun x => (g x).down := by
    unfold goDown State.modLink
    dsimp only
    rw [Tab.upd_upd_same, Tab.upd_upd_same]
    rfl
  show catchUp n (resetLevels n _) = _
  rw [hl, catchUp_eq]
  rfl

/-- Going on to ALIGNING touches nothing that Steering reads. -/
theorem beginAligning_takeArrivals (l : LinkId) (xs : List Arrival) (s : State) :
    beginAligning l (xs.foldl takeArrival s) = xs.foldl takeArrival (beginAligning l s) := by
  have hs := (steered_takeArrivals s xs).frame
  have ht : xs.foldl takeArrival (beginAligning l s) =
      (xs.foldl takeArrival s).aside (beginAligning l s).links s.handed s.late s.turns (s.freeDraws + 1) :=
    takeArrivals_aside _ _ _ _ _ s xs
  generalize xs.foldl takeArrival s = t at hs ht ⊢
  rw [ht, hs]
  rfl

theorem beginAligning_cutOff : beginAligning (.source n) (cutOff n f d s) =
    cutOff n (fun x => { f x with state := .aligning, alignCount := 0, badRun := 0, boundary := Config.searchStart d })
      (d + 1) s := by
  have hl : Tab.upd (Tab.upd s.links (linkIndex (.source n)) f) (linkIndex (.source n)) _ = _ :=
    Tab.upd_upd_same _ _ _ fun x =>
      { x with state := .aligning, alignCount := 0, badRun := 0, boundary := Config.searchStart d }
  exact congrArg (fun L => { cutOff n f (d + 1) s with links := L }) hl

/-- The commands that take source link `n` out of UP, with what becomes of the link and of the free values drawn. -/
inductive SourceLost (n : Fin 4) (s : State) : Instr → (Link → Link) → Nat → Prop where
  | signal : SourceLost n s (.lossOfSignal (.source n)) (fun x => { x with signal := false }.down) s.freeDraws
  | badCells (hb : (s.link (.source n)).badRun = 3) (hg : (s.link (.source n)).signal = false) :
      SourceLost n s (.badCell (.source n)) (fun x => { x with badCells := satUp x.badCells }.down) s.freeDraws
  | realigned (hb : (s.link (.source n)).badRun = 3) (hg : (s.link (.source n)).signal = true) :
      SourceLost n s (.badCell (.source n))
        (fun x => { { x with badCells := satUp x.badCells }.down with
          state := .aligning, alignCount := 0, badRun := 0, boundary := Config.searchStart s.freeDraws })
        (s.freeDraws + 1)

theorem sourceLost_of {i : Instr}
    (hi : i = .lossOfSignal (.source n) ∨ (i = .badCell (.source n) ∧ (s.link (.source n)).badRun = 3)) :
    ∃ f d, SourceLost n s i f d := by
  rcases hi with rfl | ⟨rfl, hb⟩
  · exact ⟨_, _, .signal⟩
  · cases hg : (s.link (.source n)).signal with
    | false => exact ⟨_, _, .badCells hb hg⟩
    | true => exact ⟨_, _, .realigned hb hg⟩

/-- The cells that wait are taken from the state in which the link has been cut off (R65, R168). -/
theorem SourceLost.exec {i : Instr} (h : SourceLost n s i f d) (hup : (s.link (.source n)).state = .up) :
    exec i s = .next ((Tab.nth s.handed n).foldl takeArrival (cutOff n f d s)) := by
  cases h with
  | signal =>
    show execLossOfSignal _ s = _
    unfold execLossOfSignal
    rw [hup, ← linkLeavesUp_source]
  | badCells hb hg =>
    show execBadCell _ s = _
    unfold execBadCell badCellUp
    rw [hup, hb, hg, ← linkLeavesUp_source]
    rfl
  | realigned hb hg =>
    show execBadCell _ s = _
    unfold execBadCell badCellUp
    rw [hup, hb, hg, ← beginAligning_cutOff, ← beginAligning_takeArrivals, ← linkLeavesUp_source]
    rfl

theorem SourceLost.of_signal (h : SourceLost n s (.lossOfSignal (.source n)) f d) : d = s.freeDraws ∧
    f (s.link (.source n)) =
      { s.link (.source n) with state := .down, signal := false, alignCount := 0, badRun := 0, wire := .quiet } := by
  cases h
  exact ⟨rfl, rfl⟩

theorem SourceLost.of_badCell (h : SourceLost n s (.badCell (.source n)) f d) :
    f (s.link (.source n)) =
      { s.link (.source n) with
        state := if (s.link (.source n)).signal then .aligning else .down
        badCells := satUp (s.link (.source n)).badCells
        alignCount := 0, badRun := 0, wire := .quiet, boundary := (f (s.link (.source n))).boundary } := by
  cases h with
  | badCells hb hg => rw [hg]; rfl
  | realigned hb hg => rw [hg]; rfl

end

/-! ## What a report leaves of its channel's entry -/

/-- From `s` to `t` the entries of the Level Image differ in their pending records at most. -/
def OnlyPointers (s t : State) : Prop := ∀ b, t.level b = { s.level b with pendingRec := (t.level b).pendingRec }

section

variable {s u t : State} {k : ClassIdx} {x : Arrival}

theorem OnlyPointers.trans (h : OnlyPointers s u) (g : OnlyPointers u t) : OnlyPointers s t := fun b => by
  have hb := g b
  rw [h b] at hb
  exact hb

theorem onlyPointers_recordAbandon (r : RecIdx) (k : ClassIdx) (why : Reason) (s : State) :
    OnlyPointers s (recordAbandon r k why s) := fun b => by
  rw [recordAbandon_cleared r k why s b]
  split <;> rfl

theorem onlyPointers_setPointer (k : ClassIdx) (x : Arrival) (r : RecIdx) (s : State) :
    OnlyPointers s (setPointer k x r s) := fun b => by
  rw [setPointer_level]
  split <;> rfl

theorem onlyPointers_refillHead (k : ClassIdx) (x : Arrival) (r : RecIdx) (rest : List RecIdx) (s : State) :
    OnlyPointers s (refillHead k x r rest s) := fun _ => rfl

theorem onlyPointers_overflow (k : ClassIdx) (x : Arrival) (s : State) : OnlyPointers s (overflow k x s) := by
  unfold overflow
  split
  · exact fun _ => rfl
  · split
    · exact fun _ => rfl
    · rename_i r rest _
      rw [displace_eq]
      exact ((onlyPointers_recordAbandon r k .displaced s).trans (onlyPointers_refillHead k x r rest _)).trans
        (onlyPointers_setPointer k x r _)

theorem onlyPointers_storeTests (k : ClassIdx) (x : Arrival) (s : State) : OnlyPointers s (storeTests k x s) := by
  unfold storeTests
  split
  · exact onlyPointers_overflow k x s
  · split
    · rw [allocate_eq]
      refine OnlyPointers.trans (fun b => ?_) (onlyPointers_setPointer k x _ _)
      rw [applyHold_frame]
      rfl
    · exact onlyPointers_overflow k x s

theorem onlyPointers_coalesce (r : RecIdx) (datum : Half) (stamp : Stamp) (s : State) :
    OnlyPointers s (coalesce r datum stamp s) := by
  unfold coalesce
  split
  · split <;> exact fun _ => rfl
  all_goals exact fun _ => rfl

/-- What follows the filter changes the pending record of an entry at most (R57). -/
theorem levelReport_level (k : ClassIdx) (x : Arrival) (s : State) : (levelReport k x s).level x.addr =
    { (reportEntry s k x.addr (levelOf x.datum)).1 with
      pendingRec := ((levelReport k x s).level x.addr).pendingRec } := by
  have hl := State.modLevel_level_same s x.addr fun _ => (reportEntry s k x.addr (levelOf x.datum)).1
  have ho : OnlyPointers (s.modLevel x.addr fun _ => (reportEntry s k x.addr (levelOf x.datum)).1)
      (levelReport k x s) := by
    unfold levelReport
    dsimp only
    split
    · exact fun _ => rfl
    · exact onlyPointers_coalesce _ _ _ _
    · exact onlyPointers_storeTests k x _
  have hb := ho x.addr
  rwa [hl] at hb

/-- A LEVEL cell of an ENABLED class leaves its channel's entry as the filter does. -/
theorem takeArrival_level (hr : RoutedTo s x.addr x.kind k) (he : (s.cls k).state = .enabled) (hx : x.kind = .level) :
    (takeArrival s x).level x.addr =
      { (reportEntry s k x.addr (levelOf x.datum)).1 with
        pendingRec := ((takeArrival s x).level x.addr).pendingRec } := by
  have ht : (takeArrival s x).level x.addr = (levelReport k x s).level x.addr := by
    unfold takeArrival
    rw [placeNotice_level, steer_routed hr, takeClassified_level he hx]
  rw [ht]
  exact levelReport_level k x s

theorem dropForeignPointer_only (s : State) (k : ClassIdx) (e : LevelEntry) :
    dropForeignPointer s k e = { e with pendingRec := (dropForeignPointer s k e).pendingRec } := by
  unfold dropForeignPointer
  split
  · rfl
  · split <;> rfl

/-- The first report of a channel whose level is UNKNOWN counts 1 of its class's confirm count (R58, R65). -/
theorem reportEntry_unknown {a : Addr} (v : Level) (h1 : (s.level a).confirmed = none)
    (h2 : (s.level a).candidate = none) :
    ((s.cls k).config.confirmCount.val ≤ 1 →
        (reportEntry s k a v).1.confirmed = some v ∧ (reportEntry s k a v).1.candidate = none ∧
          (reportEntry s k a v).1.count = 0) ∧
      (1 < (s.cls k).config.confirmCount.val →
        (reportEntry s k a v).1.confirmed = none ∧ (reportEntry s k a v).1.candidate = some v ∧
          (reportEntry s k a v).1.count = 1) := by
  unfold reportEntry
  have hd := dropForeignPointer_only s k (s.level a)
  generalize dropForeignPointer s k (s.level a) = e at hd ⊢
  have hc : e.confirmed = none := by rw [hd, h1]
  have hv : e.confirmed ≠ some v := by simp [hc]
  have hs : e.seen v = 1 := if_neg (by rw [hd, h2]; simp)
  refine ⟨fun hn => ?_, fun hn => ?_⟩
  · rw [levelFilter_of_enough hv (hs.symm ▸ hn)]
    exact ⟨rfl, rfl, rfl⟩
  · rw [levelFilter_of_few hv (hs.symm ▸ hn)]
    exact ⟨hc, rfl, Fin.ext hs⟩

end

/-- Settles O10: the state that the waiting cells meet, and what the one cell that waits makes of it. -/
theorem sourceLinkLeavesUp : Obligations.SourceLinkLeavesUp := by
  intro n s hup i hi
  obtain ⟨f, d, h⟩ := sourceLost_of hi
  refine ⟨⟨cutOff n f d s, h.exec hup, cutOff_frame, cutOff_onlyLink, cutOff_handed, cutOff_level, ?_, ?_⟩, ?_⟩
  · rintro rfl
    exact ⟨h.of_signal.1, cutOff_link.trans h.of_signal.2⟩
  · rintro rfl
    rw [cutOff_link]
    exact h.of_badCell
  · intro x k hw hlink hx hr he
    refine ⟨takeArrival (cutOff n f d s) x, by rw [h.exec hup, hw]; rfl, ?_⟩
    have hl := (cutOff_level (f := f) (d := d) (s := s) x.addr).trans (if_pos hlink)
    rw [takeArrival_level (s := cutOff n f d s) hr he hx]
    exact reportEntry_unknown (s := cutOff n f d s) (k := k) (levelOf x.datum) (by rw [hl]) (by rw [hl])

end Sys2Proof.Machine
end

section
/-! # CLASS_ENABLE and CONSUMER_ENABLE, and CLASS_DISABLE without a purge: O43 and O44 -/

namespace Sys2Proof.Machine

/-- An operation on the entry that a number names, once the number has passed the index test. -/
theorem dite_index {α : Type} {N m : Nat} {i : Fin N} (h : m = i.val) (f : Fin N → α) (x : α) :
    (if hm : m < N then f ⟨m, hm⟩ else x) = f i := by
  subst h
  exact dif_pos i.isLt

section

variable {index : Half} {k : ClassIdx} {u : State}

/-! ## The outcomes of CLASS_ENABLE (R71) -/

theorem opClassEnable_badIndex (h : 32 ≤ index.toNat) : opClassEnable index u = deny .badIndex u :=
  dif_neg (Nat.not_lt.mpr h)

theorem opClassEnable_eq (hk : index.toNat = k.val) : opClassEnable index u = enableClass k u :=
  dite_index hk (enableClass · u) _

theorem enableClass_noGroup (h : (u.cls k).state = .disabled) (hg : (u.cls k).config.group = 0) :
    enableClass k u = deny .badValue u := by
  unfold enableClass
  rw [h]
  exact if_pos hg

theorem enableClass_opened (h : (u.cls k).state = .disabled) (hg : (u.cls k).config.group ≠ 0) :
    enableClass k u = okay (data1 1) (u.modClass k fun x => { x with state := .enabled }) := by
  unfold enableClass
  rw [h]
  exact if_neg hg

theorem enableClass_reopened (h : (u.cls k).state = .draining) :
    enableClass k u = okay (data1 1) (u.modClass k fun x => { x with state := .enabled, purge := false }) := by
  unfold enableClass
  rw [h]
  rfl

theorem enableClass_enabled (h : (u.cls k).state = .enabled) : enableClass k u = okay (data1 1) u := by
  unfold enableClass
  rw [h]
  rfl

/-! ## The outcomes of CONSUMER_ENABLE (R88) -/

variable {n : ConsumerIdx}

theorem opConsumerEnable_badIndex (h : 6 ≤ index.toNat) : opConsumerEnable index u = deny .badIndex u :=
  dif_neg (Nat.not_lt.mpr h)

theorem opConsumerEnable_eq (hn : index.toNat = n.val) : opConsumerEnable index u = enableConsumer n u :=
  dite_index hn (enableConsumer · u) _

theorem inService_of_not_up {x : LinkState} (h : x ≠ .up) : inService x = .detached := by
  cases x with
  | up => exact absurd rfl h
  | aligning => rfl
  | down => rfl

/-- A consumer that is OFF comes into service as the state of its link has it. -/
theorem enableConsumer_off {x : ConsumerState} (h : (u.port n).state = .off)
    (hx : inService (u.link (.consumer n)).state = x) :
    enableConsumer n u = okay (data1 x.code) (u.modPort n fun p => { p with state := x }) := by
  unfold enableConsumer
  rw [h, hx]

/-- A consumer in service is left as it is, and its state is answered. -/
theorem enableConsumer_inService (h : (u.port n).state ≠ .off) :
    enableConsumer n u = okay (data1 (u.port n).state.code) u := by
  unfold enableConsumer
  cases hp : (u.port n).state with
  | off => exact absurd hp h
  | detached => rfl
  | waiting => rfl
  | active => rfl
  | suspect => rfl

/-- Hearing a cell leaves every link in its state. -/
theorem heardFrom_link_state (c : ConsumerIdx) (s : State) (l : LinkId) :
    ((heardFrom c s).link l).state = (s.link l).state := by
  rw [heardFrom_link]
  split <;> rfl

end

/-- Settles O43: each outcome of the two operations, answered to the holder. -/
theorem enableOutcomes : Obligations.EnableOutcomes := by
  refine ⟨fun c seq index s hc => ⟨fun hi => ?_, fun k hk => ⟨fun hst hg => ?_, fun hst hg => ?_, fun hst => ?_,
    fun hst => ?_⟩⟩, fun c seq index s hc => ⟨fun hi => ?_, fun n hn => ⟨fun hoff hup => ?_, fun hoff hup => ?_,
    fun hon => ?_⟩⟩⟩
  · exact congrArg Host.Outcome.next (request_holder_denied hc (opClassEnable_badIndex hi))
  · exact congrArg Host.Outcome.next
      (request_holder_denied hc ((opClassEnable_eq hk).trans (enableClass_noGroup hst hg)))
  · exact congrArg Host.Outcome.next (request_holder hc ((opClassEnable_eq hk).trans (enableClass_opened hst hg)))
  · exact congrArg Host.Outcome.next (request_holder hc ((opClassEnable_eq hk).trans (enableClass_reopened hst)))
  · exact congrArg Host.Outcome.next (request_holder hc ((opClassEnable_eq hk).trans (enableClass_enabled hst)))
  · exact congrArg Host.Outcome.next (request_holder_denied hc (opConsumerEnable_badIndex hi))
  · have hx : inService ((heardFrom c s).link (.consumer n)).state = .waiting := by
      rw [heardFrom_link_state, hup]
      rfl
    exact congrArg Host.Outcome.next (request_holder hc ((opConsumerEnable_eq hn).trans (enableConsumer_off hoff hx)))
  · have hx : inService ((heardFrom c s).link (.consumer n)).state = .detached := by
      rw [heardFrom_link_state, inService_of_not_up hup]
    exact congrArg Host.Outcome.next (request_holder hc ((opConsumerEnable_eq hn).trans (enableConsumer_off hoff hx)))
  · refine ⟨(s.port n).state.code, congrArg _, congrArg _, congrArg _, congrArg _, ?_⟩
    exact congrArg Host.Outcome.next
      (request_holder hc ((opConsumerEnable_eq hn).trans (enableConsumer_inService (u := heardFrom c s) hon)))

/-! ## The purge flag of CLASS_DISABLE (R72) -/

theorem flagOf_eq_none {b : Byte} (h : 1 < b.toNat) : flagOf b = none := by
  refine Option.eq_none_iff_forall_ne_some.mpr fun v hv => ?_
  have hb := flagOf_eq_some.mp hv
  split at hb <;> omega

theorem flagOf_of_le_one {b : Byte} (h : b.toNat ≤ 1) : ∃ v, flagOf b = some v := by
  rcases Nat.le_one_iff_eq_zero_or_eq_one.mp h with h0 | h1
  · exact ⟨false, flagOf_eq_some.mpr h0⟩
  · exact ⟨true, flagOf_eq_some.mpr h1⟩

section

variable {index : Half} {flag : Byte} {k : ClassIdx} {u : State}

/-! ## A class is closed without purge (R72, R76) -/

/-- The class is DRAINING, with the purge flag no. -/
def draining (k : ClassIdx) (s : State) : State := s.modClass k fun x => { x with state := .draining, purge := false }

/-- The class is DISABLED, its drain at an end (R76). -/
def disabledClass (k : ClassIdx) (s : State) : State :=
  s.modClass k fun x => { x with state := .disabled, purge := false }

theorem closeClass_noPurge (k : ClassIdx) (u : State) : closeClass k false u = drainCheck k (draining k u) := rfl

theorem draining_state : ((draining k u).cls k).state = .draining :=
  congrArg ClassRecord.state (State.modClass_cls_same u k _)

theorem draining_holding : (draining k u).holding k = u.holding k := by
  unfold State.holding draining
  rw [State.modClass_cls_same]

theorem modClass_modClass_same (f g : ClassRecord → ClassRecord) :
    (u.modClass k f).modClass k g = u.modClass k fun x => g (f x) :=
  congrArg (fun t => { u with classes := t }) (Tab.upd_upd_same u.classes k f g)

theorem disabledClass_draining : disabledClass k (draining k u) = disabledClass k u := modClass_modClass_same _ _

/-- A class that holds records drains. -/
theorem closeClass_drains (h : u.holding k ≠ 0) : closeClass k false u = draining k u := by
  rw [closeClass_noPurge]
  exact if_neg fun hd => h (draining_holding.symm.trans hd.2)

/-- A class that holds none is DISABLED at once, and CLASS_IDLE raised (R76). -/
theorem closeClass_ends (h : u.holding k = 0) : closeClass k false u = raiseIdle k (disabledClass k u) := by
  rw [closeClass_noPurge, ← disabledClass_draining]
  exact if_pos ⟨draining_state, draining_holding.trans h⟩

/-! ## The outcomes of CLASS_DISABLE, in the order of its tests (R72, R73) -/

theorem opClassDisable_badIndex (h : 32 ≤ index.toNat) : opClassDisable index flag u = deny .badIndex u :=
  dif_neg (Nat.not_lt.mpr h)

theorem opClassDisable_badValue (hk : index.toNat = k.val) (hf : 1 < flag.toNat) :
    opClassDisable index flag u = deny .badValue u := by
  unfold opClassDisable
  rw [flagOf_eq_none hf]
  exact dif_pos (hk ▸ k.isLt)

theorem opClassDisable_eq {purge : Bool} (hk : index.toNat = k.val) (hf : flagOf flag = some purge) :
    opClassDisable index flag u = disableClass k purge u := by
  unfold opClassDisable
  rw [hf]
  exact dite_index hk (disableClass · purge u) _

/-- Where nothing is abandoned, the data is the class state alone (R173). -/
theorem disableData_zero {x : ClassState} (h : (u.cls k).state = x) :
    disableData k 0 u = { Page.zero with o0 := x.code } := by
  unfold disableData
  rw [h]
  rfl

theorem disableClass_disabled {purge : Bool} (h : (u.cls k).state = .disabled) :
    disableClass k purge u = okay Page.zero u := by
  unfold disableClass
  rw [h]
  exact congrArg (okay · u) (disableData_zero h)

theorem disableClass_draining (h : (u.cls k).state = .draining) :
    disableClass k false u = okay { Page.zero with o0 := 2 } u := by
  unfold disableClass
  rw [h]
  exact congrArg (okay · u) (disableData_zero h)

theorem disableClass_enabled (h : (u.cls k).state = .enabled) :
    disableClass k false u = okay (disableData k 0 (closeClass k false u)) (placeNotice (closeClass k false u)) := by
  unfold disableClass
  rw [h]
  rfl

/-- No notice is raised, so none is placed. -/
theorem disableClass_drains (hn : NoticesPlaced u) (h : (u.cls k).state = .enabled) (hh : u.holding k ≠ 0) :
    disableClass k false u = okay { Page.zero with o0 := 2 } (draining k u) := by
  have hq : placeNotice (draining k u) = draining k u := placeNotice_quiet hn rfl rfl fun _ => rfl
  rw [disableClass_enabled h, closeClass_drains hh, hq]
  exact congrArg (okay · _) (disableData_zero draining_state)

theorem disableClass_ends (h : (u.cls k).state = .enabled) (hh : u.holding k = 0) :
    disableClass k false u = okay Page.zero (placeNotice (raiseIdle k (disabledClass k u))) := by
  have hst : ((raiseIdle k (disabledClass k u)).cls k).state = .disabled :=
    congrArg ClassRecord.state (State.modClass_cls_same u k _)
  rw [disableClass_enabled h, closeClass_ends hh]
  exact congrArg (okay · _) (disableData_zero hst)

end

/-- The Notice Unit's test reads no link, so it comes to the same before and after the REQUEST is heard. -/
theorem placeNotice_heardFrom (c : ConsumerIdx) (u : State) :
    placeNotice (heardFrom c u) = heardFrom c (placeNotice u) := by
  have h : placeNotice (heardFrom c u) =
      (placeNotice u).aside (heardFrom c u).links u.handed u.late u.turns u.freeDraws := placeNotice_aside _ _ _ _ _ u
  have hf := placeNotice_frame u
  generalize placeNotice u = v at h hf ⊢
  rw [h, hf]
  rfl

/-- Settles O44: each outcome of the operation, answered to the holder. -/
theorem classDisableWithoutPurge : Obligations.ClassDisableWithoutPurge := by
  intro c seq index flag s hc hn
  have hnd : NoticesPlaced (heardFrom c s) := hn
  refine ⟨fun hi => ?_, fun k hk => ⟨fun hf => ?_, fun hf hst => ?_, fun hf hst => ?_, fun hf hst hh => ?_,
    fun hf hst hh => ?_⟩⟩
  · exact congrArg Host.Outcome.next (request_holder_denied hc (opClassDisable_badIndex hi))
  · exact congrArg Host.Outcome.next (request_holder_denied hc (opClassDisable_badValue hk hf))
  · obtain ⟨purge, hp⟩ := flagOf_of_le_one hf
    exact congrArg Host.Outcome.next (request_holder hc ((opClassDisable_eq hk hp).trans (disableClass_disabled hst)))
  all_goals have hp : flagOf flag = some false := flagOf_eq_some.mpr hf
  · exact congrArg Host.Outcome.next (request_holder hc ((opClassDisable_eq hk hp).trans (disableClass_draining hst)))
  · exact congrArg Host.Outcome.next
      (request_holder hc ((opClassDisable_eq hk hp).trans (disableClass_drains hnd hst hh)))
  · have hop := (opClassDisable_eq hk hp).trans (disableClass_ends (u := heardFrom c s) hst hh)
    have hheard := placeNotice_heardFrom c (raiseIdle k (disabledClass k s))
    exact congrArg Host.Outcome.next (request_holder hc (hop.trans (congrArg (okay Page.zero) hheard)))

end Sys2Proof.Machine
end

section
/-! # LOAD, and the cell slots of a consumer transmitter: O26 and O31 -/

namespace Sys2Proof.Machine

/-! ## LOAD -/

/-- The two states of R90 in which a LOAD makes its consumer ACTIVE, told apart from the rest once. -/
theorem Port.takeLoad_eq (p : Port) (level : Fin 16) : p.takeLoad level =
    { p with
      load := level
      state := if p.state = .waiting ∨ p.state = .suspect then .active else p.state
      consecutive := if p.state = .waiting ∨ p.state = .suspect then 0 else p.consecutive } := by
  unfold Port.takeLoad
  split <;> rename_i h <;> simp [h]

/-- Settles O26: the LOAD is passed on to its port. -/
theorem loadStoresLevel : Obligations.LoadStoresLevel := by
  intro c level s hp
  have he : exec (.load c level) s = .next ((heardFrom c s).modPort c fun p => p.takeLoad level) :=
    congrArg Host.Outcome.next (passOn_up hp.up hp.noRestart _)
  refine ⟨_, he, rfl, ⟨State.modLink_link_same s _ _, fun _ hm => State.modLink_link_ne s _ _ hm⟩,
    fun _ hd => State.modPort_port_ne _ _ _ hd, ?_⟩
  rw [State.modPort_port_same, Port.takeLoad_eq]
  rfl

/-! ## Consumer transmitters -/

section

variable {s : State} {c : ConsumerIdx}

theorem deliverOnWire_iff (w : Wire) : deliverOnWire w = true ↔ ∃ d, w = .sending (.deliver d) := by
  cases w with
  | sending x => cases x <;> simp [deliverOnWire]
  | _ => simp [deliverOnWire]

theorem putOnWire_link (l : LinkId) (x : OutCell) (s : State) :
    (putOnWire l x s).link l = { s.link l with wire := .sending x } ∧ OnlyLink l s (putOnWire l x s) :=
  ⟨State.modLink_link_same s _ _, fun _ hm => State.modLink_link_ne s _ _ hm⟩

/-- A slot outside POR with no live DELIVER on the wire: the choice is made on an UP link alone (R98, R170). -/
theorem exec_consumerSlot (hr : s.resetAsserted = false) (hw : ∀ d, (s.link (.consumer c)).wire ≠ .sending (.deliver d)) :
    exec (.cellSlot (.consumer c)) s =
      .next (if (s.link (.consumer c)).state = .up then consumerSlot c s else putOnWire (.consumer c) .idle s) := by
  have hd : deliverOnWire (s.link (.consumer c)).wire = false :=
    Bool.eq_false_iff.mpr fun h => ((deliverOnWire_iff _).mp h).elim hw
  show execCellSlot (.consumer c) s = _
  unfold execCellSlot
  rw [hr]
  dsimp only
  rw [hd]
  cases (s.link (.consumer c)).state <;> rfl

/-- A slot inside POR, or while a live DELIVER is being sent, begins no cell (R98, R174). -/
theorem exec_consumerSlot_none
    (h : s.resetAsserted = true ∨ ∃ d, (s.link (.consumer c)).wire = .sending (.deliver d)) :
    exec (.cellSlot (.consumer c)) s = .next s := by
  show execCellSlot (.consumer c) s = _
  unfold execCellSlot
  rcases h with hr | hd
  · rw [hr]
    rfl
  · dsimp only
    rw [(deliverOnWire_iff _).mpr hd]
    exact congrArg Host.Outcome.next (ite_self s)

/-- The cell that the port has to send, in the order of R98. -/
def Port.nextCell (p : Port) : OutCell :=
  match p.responseSlot with
  | some r => .response r
  | none =>
    match p.noticeSlot with
    | some n => .notice n
    | none =>
      match p.tx with
      | d :: _ => .deliver d
      | [] => .idle

theorem consumerSlot_response {r : Response} (h : (s.port c).responseSlot = some r) :
    (s.port c).nextCell = .response r ∧
      consumerSlot c s =
        putOnWire (.consumer c) (.response r) (s.modPort c fun p => { p with responseSlot := none }) := by
  unfold Port.nextCell consumerSlot
  rw [h]
  exact ⟨rfl, rfl⟩

theorem consumerSlot_notice {n : Notice} (hr : (s.port c).responseSlot = none) (h : (s.port c).noticeSlot = some n) :
    (s.port c).nextCell = .notice n ∧
      consumerSlot c s =
        placeNotice (putOnWire (.consumer c) (.notice n) (s.modPort c fun p => { p with noticeSlot := none })) := by
  unfold Port.nextCell consumerSlot
  rw [hr, h]
  exact ⟨rfl, rfl⟩

theorem consumerSlot_deliver {d : Deliver} {rest : List Deliver} (hr : (s.port c).responseSlot = none)
    (hn : (s.port c).noticeSlot = none) (h : (s.port c).tx = d :: rest) :
    (s.port c).nextCell = .deliver d ∧ consumerSlot c s = putOnWire (.consumer c) (.deliver d) s := by
  unfold Port.nextCell consumerSlot
  rw [hr, hn, h]
  exact ⟨rfl, rfl⟩

theorem consumerSlot_idle (hr : (s.port c).responseSlot = none) (hn : (s.port c).noticeSlot = none)
    (h : (s.port c).tx = []) :
    (s.port c).nextCell = .idle ∧ consumerSlot c s = putOnWire (.consumer c) .idle s := by
  unfold Port.nextCell consumerSlot
  rw [hr, hn, h]
  exact ⟨rfl, rfl⟩

/-- Whatever the port has to send begins on its own link's wire. -/
theorem consumerSlot_begins (c : ConsumerIdx) (s : State) :
    (consumerSlot c s).link (.consumer c) =
        { s.link (.consumer c) with wire := .sending (s.port c).nextCell } ∧
      OnlyLink (.consumer c) s (consumerSlot c s) := by
  cases hr : (s.port c).responseSlot with
  | some r =>
    obtain ⟨hx, ht⟩ := consumerSlot_response hr
    rw [hx, ht]
    exact putOnWire_link _ _ _
  | none =>
    cases hn : (s.port c).noticeSlot with
    | some n =>
      obtain ⟨hx, ht⟩ := consumerSlot_notice hr hn
      rw [hx, ht]
      refine ⟨?_, fun m hm => ?_⟩ <;> rw [placeNotice_link]
      · exact (putOnWire_link _ _ _).1
      · exact (putOnWire_link _ _ (s.modPort c _)).2 m hm
    | none =>
      cases hd : (s.port c).tx with
      | cons d rest =>
        obtain ⟨hx, ht⟩ := consumerSlot_deliver hr hn hd
        rw [hx, ht]
        exact putOnWire_link _ _ _
      | nil =>
        obtain ⟨hx, ht⟩ := consumerSlot_idle hr hn hd
        rw [hx, ht]
        exact putOnWire_link _ _ _

theorem samePorts_noticeSlot (x : Option Notice) : SamePorts s (s.modPort c fun p => { p with noticeSlot := x }) :=
  fun d => by
    rw [State.modPort_port]
    split <;> rfl

theorem SamePorts.placeNotice {u : State} (h : SamePorts s u) : SamePorts s (placeNotice u) := fun d =>
  placeNotice_port_of (p := { s.port d with noticeSlot := (u.port d).noticeSlot }) (h d)

/-- A NOTICE that begins empties its slot, and the Notice Unit then tests (R97, R142). -/
theorem consumerSlot_notice_test {n : Notice} (hr : (s.port c).responseSlot = none)
    (h : (s.port c).noticeSlot = some n) :
    consumerSlot c s =
        { s with
          links := (consumerSlot c s).links, ports := (consumerSlot c s).ports
          notices := (consumerSlot c s).notices } ∧
      SamePorts s (consumerSlot c s) ∧
        NoticeTest s.notices (s.modPort c fun p => { p with noticeSlot := none }) (consumerSlot c s) := by
  rw [(consumerSlot_notice hr h).2]
  refine ⟨?_, (samePorts_noticeSlot (s := s) (c := c) none).placeNotice
    (u := putOnWire (.consumer c) (.notice n) (s.modPort c _)),
    placeNotice_test (s.modPort c _) (putOnWire (.consumer c) (.notice n) (s.modPort c _)) rfl fun _ => rfl⟩
  rw [placeNotice_frame]
  rfl

end

/-- Settles O31: the slot on an UP link sends what the port has to send, and on any other link IDLE. -/
theorem consumerSlotChoosesCell : Obligations.ConsumerSlotChoosesCell := by
  refine fun c s => ⟨fun hr hw => ?_, exec_consumerSlot_none⟩
  have he := exec_consumerSlot hr hw
  by_cases hup : (s.link (.consumer c)).state = .up
  · rw [if_pos hup] at he
    obtain ⟨hl, ho⟩ := consumerSlot_begins c s
    refine ⟨_, _, he, ho, hl, absurd hup, fun _ => ⟨fun r h => ?_, fun n hr h => ?_, fun d rest hr hn h => ?_,
      fun hr hn h => ?_⟩⟩
    · obtain ⟨hx, ht⟩ := consumerSlot_response h
      refine ⟨hx, ?_⟩
      rw [ht]
      exact ⟨rfl, fun _ hd => State.modPort_port_ne s _ _ hd, State.modPort_port_same s _ _⟩
    · exact ⟨(consumerSlot_notice hr h).1, consumerSlot_notice_test hr h⟩
    · obtain ⟨hx, ht⟩ := consumerSlot_deliver hr hn h
      rw [ht]
      exact ⟨hx, rfl⟩
    · obtain ⟨hx, ht⟩ := consumerSlot_idle hr hn h
      rw [ht]
      exact ⟨hx, rfl⟩
  · rw [if_neg hup] at he
    obtain ⟨hl, ho⟩ := putOnWire_link (.consumer c) .idle s
    exact ⟨_, _, he, ho, hl, fun _ => ⟨rfl, rfl⟩, fun h => absurd h hup⟩

end Sys2Proof.Machine
end

section
/-! # A consumer link that leaves UP: O11

The port, the link and the wire that a loss leaves rest on one law alone, that each record stands where its state says
(`Placed`): every record that the port lists is then dispatched to its own consumer, so no claim touches another port or link. -/

namespace Sys2Proof.Machine

section

variable {s : State} {c : ConsumerIdx}

/-! ## The claims on the records of the port -/

theorem abandonAll_frame (rs : List RecIdx) (why : Reason) (s : State) : abandonAll rs why s =
    { s with
      links := (abandonAll rs why s).links, records := (abandonAll rs why s).records
      freeList := (abandonAll rs why s).freeList, queues := (abandonAll rs why s).queues
      classes := (abandonAll rs why s).classes, ports := (abandonAll rs why s).ports
      hold := (abandonAll rs why s).hold, notices := (abandonAll rs why s).notices, log := (abandonAll rs why s).log
      overwrites := (abandonAll rs why s).overwrites, nextEntry := (abandonAll rs why s).nextEntry
      levels := (abandonAll rs why s).levels } := by
  induction rs generalizing s with
  | nil => rfl
  | cons r rs ih =>
    have h := ih (abandon r why s)
    rw [abandonAll_cons]
    generalize abandonAll rs why (abandon r why s) = t at h ⊢
    rw [h, abandon_frame]

/-- A link whose cell has been cut short: what was withdrawn from its wire before no longer shows (R170). -/
def Link.quieted (x : Link) : Link := { x with wire := .quiet }

/-- From `s` to `t` records of consumer `c` have been claimed back: no port but its own and no link but its own differs, its
port in its lists and its count alone, its link in its wire alone. -/
structure Claims (c : ConsumerIdx) (s t : State) : Prop where
  frame : t = { s with
    links := t.links, levels := t.levels, records := t.records, freeList := t.freeList, queues := t.queues
    classes := t.classes, ports := t.ports, hold := t.hold, notices := t.notices, log := t.log
    overwrites := t.overwrites, nextEntry := t.nextEntry }
  ports : Tab.upd t.ports c Port.emptied = Tab.upd s.ports c Port.emptied
  links : Tab.upd t.links (linkIndex (.consumer c)) Link.quieted = Tab.upd s.links (linkIndex (.consumer c)) Link.quieted

theorem Claims.lease {t : State} (h : Claims c s t) : t.lease = s.lease := by rw [h.frame]

theorem Claims.freeDraws {t : State} (h : Claims c s t) : t.freeDraws = s.freeDraws := by rw [h.frame]

theorem claims_abandonAll {rs : List RecIdx} (why : Reason) (hn : rs.Nodup) (hr : ∀ r ∈ rs, ∃ k, DispatchedTo s r k c) :
    Claims c s (abandonAll rs why s) := by
  obtain ⟨-, hp, hl⟩ := abandonAll_dispatched why hn hr
  refine ⟨abandonAll_frame rs why s, hp, ?_⟩
  rw [hl, Tab.upd_upd_same]
  rfl

theorem ReturnRun.claims {rs : List RecIdx} {u t : State} (h : ReturnRun c rs u t) (hu : Claims c s u) : Claims c s t := by
  have hl : t.links = Tab.upd u.links (linkIndex (.consumer c)) (Link.withdrawnAll rs) := by rw [h.frame]
  refine ⟨?_, h.ports.trans hu.ports, ?_⟩
  · rw [h.frame, hu.frame]
  · rw [hl, Tab.upd_upd_same]
    exact hu.links

/-- A record that is returned stands, when its turn comes, where it stood: only others have been abandoned before. -/
theorem claims_claimedBack (hp : Placed s) : Claims c s (claimedBack c s) := by
  have hn := grantedTo_nodup hp c
  have hnp : (purgedOf s c).Nodup := hn.filter _
  have hdp : ∀ r ∈ purgedOf s c, ∃ k, DispatchedTo s r k c := fun r hr =>
    mem_grantedTo_dispatched hp (mem_purgedOf.mp hr).1
  unfold claimedBack
  have he := abandons_eq_abandonAll hnp hdp
  refine (returns_run (hn.filter _) fun r hr => ?_).claims (he ▸ claims_abandonAll .purged hnp hdp)
  obtain ⟨hg, hz⟩ := mem_returnedOf.mp hr
  unfold DispatchedTo
  rw [abandons_place, if_neg fun h => Bool.false_ne_true (hz.symm.trans (mem_purgedOf.mp h).2)]
  exact mem_grantedTo_dispatched hp hg

/-! ## The consumer's port, its link and its lease -/

/-- What a consumer link that leaves UP leaves, the link itself changed by `f`, with `d` free values drawn. -/
structure LeftUp (c : ConsumerIdx) (f : Link → Link) (d : Nat) (s t : State) : Prop where
  frame : t = { s with
    links := t.links, levels := t.levels, records := t.records, freeList := t.freeList, queues := t.queues
    classes := t.classes, ports := t.ports, hold := t.hold, notices := t.notices, log := t.log
    overwrites := t.overwrites, nextEntry := t.nextEntry, lease := t.lease, freeDraws := t.freeDraws }
  links : t.links = Tab.upd s.links (linkIndex (.consumer c)) f
  port : t.port c = (s.port c).detached.vacant
  otherPorts : OtherPorts c s t
  lease : t.lease = if s.holds c then none else s.lease
  draws : t.freeDraws = d

theorem freeLeaseOf_lease (c : ConsumerIdx) (s : State) :
    (freeLeaseOf c s).lease = if s.holds c then none else s.lease := by
  unfold freeLeaseOf
  split <;> rfl

theorem freeLeaseOf_holds (c : ConsumerIdx) (s : State) : (freeLeaseOf c s).holds c = false := by
  unfold freeLeaseOf
  split
  · rfl
  · rename_i h
    exact Bool.eq_false_iff.mpr h

/-- What follows the claims: the port's lists and slots are emptied and its cell is cut short. -/
def outOfService (c : ConsumerIdx) (u : State) : State :=
  ((u.modPort c Port.emptied).modPort c fun p => { p with responseSlot := none, noticeSlot := none }).modLink
    (.consumer c) Link.quieted

theorem lost_eq_outOfService (c : ConsumerIdx) (s : State) :
    lost c s = freeLeaseOf c (outOfService c (claimedBack c (s.modPort c Port.detached))) := by
  unfold lost vacated
  rw [returnAll_eq]
  rfl

theorem outOfService_ports (c : ConsumerIdx) (u : State) :
    (outOfService c u).ports = Tab.upd (Tab.upd u.ports c Port.emptied) c fun p =>
      { p with responseSlot := none, noticeSlot := none } := rfl

/-- The claims are made on the DETACHED port; the lease is freed last. -/
theorem Claims.leftUp {u : State} (h : Claims c (s.modPort c Port.detached) u) :
    LeftUp c Link.quieted s.freeDraws s (freeLeaseOf c (outOfService c u)) := by
  have hlease : (outOfService c u).lease = s.lease := h.lease
  have hports : (outOfService c u).ports = Tab.upd s.ports c fun p => p.detached.vacant := by
    rw [outOfService_ports, h.ports]
    exact (Tab.upd_upd_same _ _ _ _).trans (Tab.upd_upd_same _ _ _ _)
  have hframe := freeLeaseOf_frame c (outOfService c u)
  have hfreed := freeLeaseOf_lease c (outOfService c u)
  rw [State.holds_congr hlease, hlease] at hfreed
  generalize freeLeaseOf c (outOfService c u) = t at hframe hfreed ⊢
  have hport (d : ConsumerIdx) : t.port d = if d = c then (s.port d).detached.vacant else s.port d := by
    rw [hframe]
    exact (congrArg (Tab.nth · d) hports).trans (Tab.nth_upd _ _ _ _)
  refine ⟨?_, ?_, (hport c).trans (if_pos rfl), fun d hd => by rw [hport d, if_neg hd], hfreed, ?_⟩
  · rw [hframe, h.frame]
    rfl
  · exact (congrArg State.links hframe).trans h.links
  · exact (congrArg State.freeDraws hframe).trans h.freeDraws

theorem leftUp_lost (hp : Placed s) : LeftUp c Link.quieted s.freeDraws s (lost c s) :=
  lost_eq_outOfService c s ▸
    (claims_claimedBack ((KeepsLists.setState ConsumerState.detach).placed hp)).leftUp

theorem beginAligning_links (l : LinkId) (t : State) : (beginAligning l t).links =
    Tab.upd t.links (linkIndex l) fun x =>
      { x with state := .aligning, alignCount := 0, badRun := 0, boundary := Config.searchStart t.freeDraws } := rfl

theorem lost_holds (c : ConsumerIdx) (s : State) : (lost c s).holds c = false := freeLeaseOf_holds c _

namespace LeftUp

variable {f : Link → Link} {d : Nat} {t : State}

theorem link (h : LeftUp c f d s t) : t.link (.consumer c) = f (s.link (.consumer c)) := by
  unfold State.link
  rw [h.links, Tab.nth_upd_same]

theorem onlyLink (h : LeftUp c f d s t) : OnlyLink (.consumer c) s t := fun m hm => by
  unfold State.link
  rw [h.links, Tab.nth_upd_ne _ _ fun e => hm (linkIndex_inj.mp e)]

/-- A consumer that does not hold the lease gets no NOTICE. -/
theorem placeNotice (h : LeftUp c f d s t) (hn : t.holds c = false) : LeftUp c f d s (placeNotice t) := by
  have hf := placeNotice_frame t
  refine ⟨?_, (congrArg State.links hf).trans h.links, ?_, fun e he => ?_, (congrArg State.lease hf).trans h.lease,
    (congrArg State.freeDraws hf).trans h.draws⟩
  · have hs := h.frame
    generalize Machine.placeNotice t = u at hf ⊢
    rw [hf, hs]
  · have hslot := (placeNotice_test t t rfl fun _ => rfl).slot_of_not_holder hn
    rw [placeNotice_port, hslot]
    exact h.port
  · exact placeNotice_port_of (p := { s.port e with noticeSlot := (t.port e).noticeSlot }) (h.otherPorts e he)

/-- A change of the link before the loss. -/
theorem of_modLink {g : Link → Link} (h : LeftUp c f d (s.modLink (.consumer c) g) t) :
    LeftUp c (fun x => f (g x)) d s t :=
  ⟨h.frame, h.links.trans (Tab.upd_upd_same _ _ _ _), h.port, h.otherPorts, h.lease, h.draws⟩

/-- The passage to ALIGNING after the loss (log 10). -/
theorem beginAligning (h : LeftUp c f d s t) :
    LeftUp c (fun x => { f x with state := .aligning, alignCount := 0, badRun := 0, boundary := Config.searchStart d })
      (d + 1) s (beginAligning (.consumer c) t) := by
  refine ⟨?_, ?_, h.port, h.otherPorts, h.lease, congrArg (· + 1) h.draws⟩
  · rw [beginAligning_eq, h.frame]
  · rw [← h.draws, beginAligning_links, h.links, Tab.upd_upd_same]

end LeftUp

/-- A receiver that goes DOWN and leaves UP, its link changed by `g` before. -/
theorem leftUp_linkLeavesUp (hp : Placed s) (g : Link → Link) :
    LeftUp c (fun x => (g x).down) s.freeDraws s
      (linkLeavesUp (.consumer c) (goDown (.consumer c) (s.modLink (.consumer c) g))) := by
  obtain ⟨L, hL⟩ := goDown_modLink_withLines (.consumer c) g s
  have hd : Placed (goDown (.consumer c) (s.modLink (.consumer c) g)) :=
    hL ▸ placed_congr hp (fun _ => rfl) rfl (fun _ => rfl) (fun _ => rfl) fun _ => rfl
  exact ((leftUp_lost hd).placeNotice (lost_holds c _)).of_modLink.of_modLink

/-! ## The two commands -/

theorem exec_lossOfSignal_up {l : LinkId} (hup : (s.link l).state = .up) :
    exec (.lossOfSignal l) s =
      .next (linkLeavesUp l (goDown l (s.modLink l fun x => { x with signal := false }))) := by
  show execLossOfSignal l s = _
  unfold execLossOfSignal
  rw [hup]

/-- The fourth bad cell in a row, by the report of the signal detector (log 10). -/
theorem exec_badCell_fourth {l : LinkId} (hup : (s.link l).state = .up) (hb : (s.link l).badRun = 3) {t : State}
    (ht : linkLeavesUp l (goDown l (s.modLink l fun x => { x with badCells := satUp x.badCells })) = t) :
    ((s.link l).signal = false → exec (.badCell l) s = .next t) ∧
      ((s.link l).signal = true → exec (.badCell l) s = .next (beginAligning l t)) := by
  have he : exec (.badCell l) s = .next (if (s.link l).signal then beginAligning l t else t) := by
    show execBadCell l s = _
    unfold execBadCell badCellUp
    rw [hup, hb, ← ht]
    rfl
  exact ⟨fun hg => by rw [he, hg]; rfl, fun hg => by rw [he, hg]; rfl⟩

/-- The state of R93's first step, as the statement has it. -/
theorem Port.detached_vacant (p : Port) : p.detached.vacant =
    { p with
      state := if p.state = .off then .off else .detached
      tx := [], waitingAck := [], dispatched := 0, responseSlot := none, noticeSlot := none } := by
  unfold Port.detached Port.vacant Port.emptied ConsumerState.detach
  cases p.state <;> rfl

/-- Settles O11: the two commands differ at the link alone. -/
theorem consumerLinkLeavesUp : Obligations.ConsumerLinkLeavesUp := by
  intro c s hp hup i hi
  rcases hi with rfl | ⟨rfl, hb⟩
  · have h := leftUp_linkLeavesUp (c := c) hp fun x => { x with signal := false }
    exact ⟨_, exec_lossOfSignal_up hup, h.frame, h.onlyLink, fun _ => ⟨h.draws, h.link⟩, nofun,
      h.port.trans (Port.detached_vacant _), h.otherPorts, h.lease⟩
  · have h := leftUp_linkLeavesUp (c := c) hp fun x => { x with badCells := satUp x.badCells }
    generalize ht : linkLeavesUp (.consumer c) _ = t at h
    obtain ⟨hdown, haligns⟩ := exec_badCell_fourth hup hb ht
    cases hg : (s.link (.consumer c)).signal with
    | false =>
      refine ⟨t, hdown hg, h.frame, h.onlyLink, nofun, fun _ => ?_, h.port.trans (Port.detached_vacant _),
        h.otherPorts, h.lease⟩
      rw [h.link]
      rfl
    | true =>
      have ha := h.beginAligning
      refine ⟨_, haligns hg, ha.frame, ha.onlyLink, nofun, fun _ => ?_, ha.port.trans (Port.detached_vacant _),
        ha.otherPorts, ha.lease⟩
      rw [ha.link]
      rfl

end

end Sys2Proof.Machine
end

section
/-! # GRANT: who contends, and what is chosen: O28 and O29 -/

namespace Sys2Proof.Machine

section

variable {s : State} {k : ClassIdx} {c : ConsumerIdx} {r : RecIdx} {rest : List RecIdx}

/-! ## Contenders and candidates -/

/-- A candidate is in the group, ACTIVE and below its window (R112). -/
theorem isCandidate_iff : isCandidate s k c = true ↔
    (s.cls k).config.group.getLsbD c.val = true ∧ (s.port c).state = .active ∧
      (s.port c).dispatched < (s.port c).window.val := by
  simp only [isCandidate, inSet, Bool.and_eq_true, beq_iff_eq, decide_eq_true_eq, and_assoc]

theorem ClassState.ne_disabled_iff (x : ClassState) : (x != .disabled) = true ↔ x = .enabled ∨ x = .draining := by
  cases x <;> decide

theorem ClassOrder.free_or_iff (x : ClassOrder) (n : Nat) : (x == .free || n == 0) = true ↔ (x = .serial → n = 0) := by
  cases x with
  | free => exact ⟨fun _ => nofun, fun _ => rfl⟩
  | serial =>
    have h : (ClassOrder.serial == ClassOrder.free) = false := rfl
    simp only [h, Bool.false_or, beq_iff_eq, forall_const]

/-- A contender is ENABLED or DRAINING, with a queue, a candidate and, if SERIAL, no dispatched record (R107). -/
theorem isContender_iff : isContender s k = true ↔
    ((s.cls k).state = .enabled ∨ (s.cls k).state = .draining) ∧ s.queue k ≠ [] ∧
      ((s.cls k).config.order = .serial → (s.cls k).dispatchedCount = 0) ∧ ∃ c, isCandidate s k c = true := by
  have hany : allConsumers.any (isCandidate s k) = true ↔ ∃ c, isCandidate s k c = true := by
    simp only [List.any_eq_true, mem_allConsumers, true_and]
  have hq : (!(s.queue k).isEmpty) = true ↔ s.queue k ≠ [] := by
    rw [Bool.not_eq_true', List.isEmpty_eq_false_iff]
  unfold isContender
  simp only [Bool.and_eq_true]
  rw [ClassState.ne_disabled_iff, ClassOrder.free_or_iff, hany, hq, and_assoc, and_assoc]

/-! ## The three choices of a decision -/

/-- A decision is a class served, the head of its queue, and a consumer chosen for that record (R108). -/
theorem decision_choices (h : decision s = some (k, c, r, rest)) :
    chooseClass s = some k ∧ s.queue k = r :: rest ∧ chooseConsumer s k r = some c := by
  unfold decision at h
  split at h
  · cases h
  · rename_i j hj
    split at h
    · cases h
    · rename_i q qs hq
      split at h
      · cases h
      · rename_i d hd
        cases h
        exact ⟨hj, hq, hd⟩

theorem exec_grant_restart (h : s.restart ≠ none) : exec .grant s = .next s := by
  show execGrant s = _
  unfold execGrant
  split
  · rfl
  · rename_i hr
    exact absurd hr h

/-- What the Dispatcher decides is a contender, so without one it decides nothing (R108). -/
theorem exec_grant_idle (h : ∀ k, isContender s k = false) : exec .grant s = .next s := by
  have hd : decision s = none := Option.eq_none_iff_forall_ne_some.mpr fun ⟨k, c, r, rest⟩ e =>
    Bool.false_ne_true ((h k).symm.trans (decision_some e).1)
  show execGrant s = _
  unfold execGrant
  rw [hd]
  split <;> rfl

/-- Settles O28. -/
theorem contendersAndCandidates : Obligations.ContendersAndCandidates := by
  refine fun s => ⟨fun k => isContender_iff, fun k c => isCandidate_iff, ?_⟩
  rintro (h | h)
  · exact exec_grant_idle h
  · exact exec_grant_restart h

/-! ## The consumer chosen -/

/-- What stands before a member that a filter keeps in the filtered list stands before it in the whole. -/
theorem idxOf_lt_of_filter {α : Type} [DecidableEq α] {p : α → Bool} {x y : α} (hy : p y = true) (l : List α)
    (h : (l.filter p).idxOf x < (l.filter p).idxOf y) : l.idxOf x < l.idxOf y := by
  induction l with
  | nil => exact h
  | cons a l ih =>
    by_cases hay : a = y
    · subst hay
      rw [List.filter_cons_of_pos hy, List.idxOf_cons_self] at h
      exact absurd h (Nat.not_lt_zero _)
    · rw [List.idxOf_cons_ne _ hay]
      by_cases hax : a = x
      · rw [hax, List.idxOf_cons_self]
        exact Nat.succ_pos _
      · rw [List.idxOf_cons_ne _ hax]
        refine Nat.succ_lt_succ (ih ?_)
        by_cases ha : p a = true
        · rw [List.filter_cons_of_pos ha, List.idxOf_cons_ne _ hay, List.idxOf_cons_ne _ hax] at h
          exact Nat.lt_of_succ_lt_succ h
        · rwa [List.filter_cons_of_neg ha] at h

/-- PRIMARY takes the lowest index of those considered, which stand in ascending order (R113). -/
theorem chooseConsumer_primary (hm : (s.cls k).config.mode = .primary) (h : chooseConsumer s k r = some c) :
    c ∈ considered s k r ∧ ∀ d ∈ considered s k r, d ≠ c → c < d := by
  unfold chooseConsumer at h
  rw [hm] at h
  obtain ⟨tail, hl⟩ := List.head?_eq_some_iff.mp h
  have hasc := considered_ascending s k r
  rw [hl, List.pairwise_cons] at hasc
  rw [hl]
  exact ⟨List.mem_cons_self, fun d hd hne => hasc.1 d ((List.mem_cons.mp hd).resolve_left hne)⟩

/-- BALANCED takes the least loaded of those considered, and of a tie the earliest in the Grant Order List (R114). -/
theorem chooseConsumer_balanced (hg : GrantOrderLawful s) (hm : (s.cls k).config.mode = .balanced)
    (h : chooseConsumer s k r = some c) :
    c ∈ considered s k r ∧ ∀ d ∈ considered s k r, d ≠ c →
      effectiveLoad s c < effectiveLoad s d ∨
        (effectiveLoad s c = effectiveLoad s d ∧ s.grantOrder.idxOf c < s.grantOrder.idxOf d) := by
  unfold chooseConsumer at h
  rw [hm] at h
  have hnd : s.grantOrder.Nodup := hg.nodup_iff.mpr (by decide)
  have hmem : ∀ d, d ∈ s.grantOrder.filter (fun x => (considered s k r).contains x) ↔ d ∈ considered s k r := fun d => by
    rw [List.mem_filter, List.contains_iff_mem]
    exact ⟨And.right, fun hd => ⟨hg.mem_iff.mpr (mem_allConsumers d), hd⟩⟩
  obtain ⟨hc, hmin⟩ := (leastLoaded_some s _ (hnd.filter _)).2 c h
  have hcc := (hmem c).mp hc
  refine ⟨hcc, fun d hd hne => (hmin d ((hmem d).mpr hd) hne).imp_right fun ⟨he, hlt⟩ => ⟨he, ?_⟩⟩
  exact idxOf_lt_of_filter (List.contains_iff_mem.mpr hd) _ hlt

theorem chooseConsumer_considered (hg : GrantOrderLawful s) (h : chooseConsumer s k r = some c) :
    c ∈ considered s k r := by
  cases hm : (s.cls k).config.mode with
  | primary => exact (chooseConsumer_primary hm h).1
  | balanced => exact (chooseConsumer_balanced hg hm h).1

/-- A candidate is considered with the one chosen unless the tried set tells them apart. -/
theorem considered_of_chosen {d : ConsumerIdx} (hc : c ∈ considered s k r) (hd : isCandidate s k d = true)
    (ht : (s.rcd r).tried.getLsbD c.val = false → (s.rcd r).tried.getLsbD d.val = false) : d ∈ considered s k r :=
  mem_considered.mpr ⟨hd, fun he => ht ((mem_considered.mp hc).2 he)⟩

end

/-- Settles O29: the class by `chooseClass_some`, the consumer by the mode of that class. -/
theorem grantChoosesClassAndConsumer : Obligations.GrantChoosesClassAndConsumer := by
  refine ⟨fun s hg hr h => ?_, fun s hg hr h => ?_⟩
  all_goals
    obtain ⟨k, c, r, rest, hd⟩ := decision_of_contender hg h
    obtain ⟨hk, hq, hc⟩ := decision_choices hd
  · obtain ⟨j, hj, hcont, hprio, hturn⟩ := chooseClass_some h
    obtain rfl : k = j := Option.some.inj (hk.symm.trans hj)
    refine ⟨k, r, rest, grantRecord k c r rest s, exec_grant hr hd, hq, ?_, hcont, hprio, hturn⟩
    rw [grantRecord_queue, if_pos rfl]
  · have hin := chooseConsumer_considered hg hc
    obtain ⟨hcand, hfresh⟩ := mem_considered.mp hin
    refine ⟨k, c, r, rest, grantRecord k c r rest s, exec_grant hr hd, hq, grantRecord_place, hcand, hfresh, ?_⟩
    intro d hne hdc ht
    have hdin := considered_of_chosen hin hdc ht
    exact ⟨fun hm => (chooseConsumer_primary hm hc).2 d hdin hne,
      fun hm => (chooseConsumer_balanced hg hm hc).2 d hdin hne⟩

end Sys2Proof.Machine
end

section
/-! # The small laws: what the blocks behind the links leave of them

The small laws read the Grant Order List, the Abandon Log, the cells that wait for Steering, the restart, and of each link the
state of its receiver. The blocks behind the links touch only the log, at its tail, and the wires. -/

namespace Sys2Proof.Machine

/-- What the small laws read of a link: its state and its two counts (R164). -/
def Link.receiver (x : Link) : Link :=
  { Link.por with state := x.state, alignCount := x.alignCount, badRun := x.badRun }

/-- From `s` to `t` nothing that the small laws read has changed, but for a log that keeps within its capacity. -/
structure SameLaws (s t : State) : Prop where
  grantOrder : t.grantOrder = s.grantOrder
  handed : t.handed = s.handed
  restart : t.restart = s.restart
  receiver : ∀ l, (t.link l).receiver = (s.link l).receiver
  log : LogWithinCapacity s → LogWithinCapacity t

namespace SameLaws

variable {s u t : State}

theorem refl (s : State) : SameLaws s s := ⟨rfl, rfl, rfl, fun _ => rfl, id⟩

theorem trans (h : SameLaws s u) (g : SameLaws u t) : SameLaws s t where
  grantOrder := g.grantOrder.trans h.grantOrder
  handed := g.handed.trans h.handed
  restart := g.restart.trans h.restart
  receiver l := (g.receiver l).trans (h.receiver l)
  log := g.log ∘ h.log

theorem linkState (h : SameLaws s t) (l : LinkId) : (t.link l).state = (s.link l).state :=
  show (t.link l).receiver.state = (s.link l).receiver.state from congrArg Link.state (h.receiver l)

/-- Steps taken one after another. -/
theorem foldl {α : Type} {f : State → α → State} (hf : ∀ u a, SameLaws u (f u a)) (as : List α) (s : State) :
    SameLaws s (as.foldl f s) :=
  List.foldlRecOn (motive := SameLaws s) as f (refl s) fun u hu a _ => hu.trans (hf u a)

end SameLaws

section

variable (s : State)

/-! ## The shared rules -/

theorem sameLaws_modLink (l : LinkId) {f : Link → Link} (hf : ∀ x, (f x).receiver = x.receiver) :
    SameLaws s (s.modLink l f) where
  grantOrder := rfl
  handed := rfl
  restart := rfl
  receiver m := by
    rw [State.modLink_link]
    split
    · exact hf _
    · rfl
  log := id

theorem sameLaws_modPort (c : ConsumerIdx) (f : Port → Port) : SameLaws s (s.modPort c f) :=
  ⟨rfl, rfl, rfl, fun _ => rfl, id⟩

theorem sameLaws_modClass (k : ClassIdx) (f : ClassRecord → ClassRecord) : SameLaws s (s.modClass k f) :=
  ⟨rfl, rfl, rfl, fun _ => rfl, id⟩

theorem sameLaws_modRec (r : RecIdx) (f : EventRecord → EventRecord) : SameLaws s (s.modRec r f) :=
  ⟨rfl, rfl, rfl, fun _ => rfl, id⟩

theorem sameLaws_placeNotice : SameLaws s (placeNotice s) := by
  rw [placeNotice_frame]
  exact ⟨rfl, rfl, rfl, fun _ => rfl, id⟩

/-- The Notice Unit's test at the end of a transition. -/
theorem SameLaws.placeNotice {s u : State} (h : SameLaws s u) : SameLaws s (placeNotice u) :=
  h.trans (sameLaws_placeNotice u)

theorem sameLaws_applyHold : SameLaws s (applyHold s) := by
  rw [applyHold_frame]
  exact ⟨rfl, rfl, rfl, fun _ => rfl, id⟩

theorem sameLaws_drainCheck (k : ClassIdx) : SameLaws s (drainCheck k s) := by
  rw [drainCheck_frame]
  exact ⟨rfl, rfl, rfl, fun _ => rfl, id⟩

theorem sameLaws_renewLease (c : ConsumerIdx) : SameLaws s (renewLease c s) := by
  rw [renewLease_frame]
  exact ⟨rfl, rfl, rfl, fun _ => rfl, id⟩

theorem sameLaws_freeLeaseOf (c : ConsumerIdx) : SameLaws s (freeLeaseOf c s) := by
  rw [freeLeaseOf_frame]
  exact ⟨rfl, rfl, rfl, fun _ => rfl, id⟩

theorem sameLaws_suspectCheck (c : ConsumerIdx) : SameLaws s (suspectCheck c s) := by
  unfold suspectCheck
  split <;> exact ⟨rfl, rfl, rfl, fun _ => rfl, id⟩

/-! ## Claims -/

/-- A withdrawn DELIVER is on the wire, which no receiver reads. -/
theorem sameLaws_dropDispatch (c : ConsumerIdx) (r : RecIdx) : SameLaws s (dropDispatch c r s) :=
  (sameLaws_modPort s c _).trans (sameLaws_modLink _ _ fun _ => rfl)

theorem sameLaws_freeRecord (r : RecIdx) : SameLaws s (freeRecord r s) := by
  have hrules (k : ClassIdx) (u : State) : SameLaws u (applyHold (drainCheck k u)) :=
    (sameLaws_drainCheck u k).trans (sameLaws_applyHold _)
  rcases place_cases s r with h | ⟨k, h⟩ | ⟨k, c, h⟩
  · rw [freeRecord_eq_free h]
    exact .refl s
  · have hp : SameLaws s (freePending k r s) := ⟨rfl, rfl, rfl, fun _ => rfl, id⟩
    rw [freeRecord_eq_pending h]
    exact hp.trans (hrules k _)
  · have hd : SameLaws (dropDispatch c r s) (freeDispatched k c r s) := ⟨rfl, rfl, rfl, fun _ => rfl, id⟩
    rw [freeRecord_eq_dispatched h]
    exact ((sameLaws_dropDispatch s c r).trans hd).trans (hrules k _)

theorem sameLaws_recordAbandon (r : RecIdx) (k : ClassIdx) (why : Reason) : SameLaws s (recordAbandon r k why s) := by
  rw [recordAbandon_eq]
  exact ⟨rfl, rfl, rfl, fun _ => rfl, writeEntry_length _ s⟩

theorem sameLaws_abandon (r : RecIdx) (why : Reason) : SameLaws s (abandon r why s) := by
  unfold abandon
  split
  · exact .refl s
  · exact (sameLaws_recordAbandon s r _ why).trans (sameLaws_freeRecord _ r)

theorem sameLaws_returnRecord (r : RecIdx) : SameLaws s (returnRecord r s) := by
  unfold returnRecord
  split
  · exact .refl s
  · exact .refl s
  · rename_i c _
    exact (sameLaws_dropDispatch s c r).trans ⟨rfl, rfl, rfl, fun _ => rfl, id⟩
  · rename_i c _ _
    exact (sameLaws_dropDispatch s c r).trans ⟨rfl, rfl, rfl, fun _ => rfl, id⟩

/-- A failure, its charge and its consumer's counters made first, is an abandonment or a return. -/
theorem sameLaws_failure (c : ConsumerIdx) (k : ClassIdx) (r : RecIdx) (f : Port → Port) :
    SameLaws s (failureDecision k r (chargeFailure c r (s.modPort c f))) := by
  have hc : SameLaws s (chargeFailure c r (s.modPort c f)) :=
    (sameLaws_modPort s c f).trans (sameLaws_modRec _ r _)
  refine hc.trans ?_
  rcases failureDecision_cases k r (chargeFailure c r (s.modPort c f)) with ⟨-, e⟩ | ⟨-, -, e⟩ | ⟨-, -, e⟩ <;> rw [e]
  · exact sameLaws_abandon _ r _
  · exact sameLaws_abandon _ r _
  · exact sameLaws_returnRecord _ r

theorem sameLaws_returnAll (c : ConsumerIdx) : SameLaws s (returnAll c s) := by
  have ha : SameLaws s ((purgedOf s c).foldl (fun t r => abandon r .purged (markTried c r t)) s) :=
    .foldl (fun u r => (sameLaws_modRec u r _).trans (sameLaws_abandon _ r .purged)) _ s
  have hb : SameLaws s (claimedBack c s) :=
    List.foldrRecOn (motive := SameLaws s) _ _ ha fun u hu r _ => hu.trans (sameLaws_returnRecord u r)
  rw [returnAll_eq]
  exact hb.trans (sameLaws_modPort _ c _)

theorem sameLaws_closeClass (k : ClassIdx) (purge : Bool) : SameLaws s (closeClass k purge s) := by
  unfold closeClass
  dsimp only
  refine SameLaws.trans ?_ (sameLaws_drainCheck _ k)
  split
  · exact (sameLaws_modClass s k _).trans (.foldl (fun u r => sameLaws_abandon u r .purged) _ _)
  · exact sameLaws_modClass s k _

/-! ## Steering and Admission -/

theorem sameLaws_storeTests (k : ClassIdx) (x : Arrival) : SameLaws s (storeTests k x s) := by
  have ho : SameLaws s (overflow k x s) := by
    unfold overflow
    split
    · exact sameLaws_modClass s k _
    · split
      · exact sameLaws_modClass s k _
      · rw [displace_fields]
        exact ⟨rfl, rfl, rfl, fun _ => rfl, writeEntry_length _ s⟩
  unfold storeTests
  split
  · exact ho
  · split
    · rw [allocate_fields]
      exact ⟨rfl, rfl, rfl, fun _ => rfl, id⟩
    · exact ho

theorem sameLaws_coalesce (r : RecIdx) (datum : Half) (stamp : Stamp) : SameLaws s (coalesce r datum stamp s) := by
  unfold coalesce
  split
  · split
    · exact sameLaws_modRec s r _
    · exact .refl s
  all_goals exact .refl s

theorem sameLaws_levelReport (k : ClassIdx) (x : Arrival) : SameLaws s (levelReport k x s) := by
  have hl (e : LevelEntry) : SameLaws s (s.modLevel x.addr fun _ => e) := ⟨rfl, rfl, rfl, fun _ => rfl, id⟩
  unfold levelReport
  dsimp only
  split
  · exact hl _
  · exact ((hl _).trans (sameLaws_coalesce _ _ _ _)).trans (sameLaws_modClass _ k _)
  · exact (hl _).trans (sameLaws_storeTests _ k x)

theorem sameLaws_takeArrival (x : Arrival) : SameLaws s (takeArrival s x) := by
  apply SameLaws.placeNotice
  unfold steer
  split
  · exact ⟨rfl, rfl, rfl, fun _ => rfl, id⟩
  · unfold takeClassified
    split
    · exact sameLaws_modClass s _ _
    · exact sameLaws_modClass s _ _
    · split
      · exact sameLaws_levelReport s _ x
      · exact sameLaws_storeTests s _ x
      · exact sameLaws_storeTests s _ x

/-- Cells taken one after another. -/
theorem sameLaws_takeArrivals (xs : List Arrival) : SameLaws s (xs.foldl takeArrival s) :=
  .foldl sameLaws_takeArrival xs s

/-! ## Consumer cells, deadlines and the transmitters -/

theorem sameLaws_takeAckTag (c : ConsumerIdx) (tag : Tag) : SameLaws s (takeAckTag c s tag) := by
  unfold takeAckTag
  split
  · rename_i k _
    have hc : SameLaws s (complete c k tag.index s) :=
      ((sameLaws_modClass s k _).trans (sameLaws_modPort _ c _)).trans (sameLaws_freeRecord _ _)
    exact hc.placeNotice
  · exact sameLaws_modPort s c _

theorem sameLaws_putOnWire (l : LinkId) (x : OutCell) : SameLaws s (putOnWire l x s) :=
  sameLaws_modLink s l fun _ => rfl

theorem sameLaws_consumerSlot (c : ConsumerIdx) : SameLaws s (consumerSlot c s) := by
  unfold consumerSlot
  split
  · exact (sameLaws_modPort s c _).trans (sameLaws_putOnWire _ _ _)
  · split
    · exact ((sameLaws_modPort s c _).trans (sameLaws_putOnWire _ _ _)).placeNotice
    · split <;> exact sameLaws_putOnWire s _ _

theorem sameLaws_deliverSent (c : ConsumerIdx) (d : Deliver) : SameLaws s (deliverSent c d s) := by
  unfold deliverSent
  split
  · split
    · exact (sameLaws_modRec s _ _).trans (sameLaws_modPort _ c _)
    · exact .refl s
  all_goals exact .refl s

end

end Sys2Proof.Machine
end

section
/-! # The small laws along every command: O54

What moves a receiver, the Grant Order List, the cells that wait or the restart keeps each of the four laws by itself; a link
that leaves UP does so with none of its cells waiting any more, and a restart begins with none waiting at all. -/

namespace Sys2Proof.Machine

/-- The alignment count runs in ALIGNING alone, the bad-cell run in UP alone (R164). -/
def Link.CountsLawful (x : Link) : Prop :=
  (x.state ≠ .aligning → x.alignCount = 0) ∧ (x.state ≠ .up → x.badRun = 0)

/-- From `s` to `t` each of the four small laws is kept. -/
structure KeepsLaws (s t : State) : Prop where
  grantOrder : GrantOrderLawful s → GrantOrderLawful t
  log : LogWithinCapacity s → LogWithinCapacity t
  counts : LinkCountsLawful s → LinkCountsLawful t
  handed : HandedLawful s → HandedLawful t

section

variable {s t u : State}

theorem linkCountsLawful_iff : LinkCountsLawful s ↔ ∀ l, (s.link l).CountsLawful := Iff.rfl

theorem KeepsLaws.refl (s : State) : KeepsLaws s s := ⟨id, id, id, id⟩

theorem KeepsLaws.trans (h : KeepsLaws s u) (g : KeepsLaws u t) : KeepsLaws s t :=
  ⟨g.grantOrder ∘ h.grantOrder, g.log ∘ h.log, g.counts ∘ h.counts, g.handed ∘ h.handed⟩

theorem SameLaws.keeps (h : SameLaws s t) : KeepsLaws s t where
  grantOrder := by
    unfold GrantOrderLawful
    rw [h.grantOrder]
    exact id
  log := h.log
  counts hc l := show (t.link l).receiver.CountsLawful from h.receiver l ▸ hc l
  handed hh n x hx := by
    rw [h.handed] at hx
    rw [h.linkState, h.restart]
    exact hh n x hx

/-! ## Links and the cells that wait -/

/-- A link changes in what its receiver does not show. -/
theorem keeps_modLink_aside (s : State) (l : LinkId) {f : Link → Link} (hf : ∀ x, (f x).receiver = x.receiver) :
    KeepsLaws s (s.modLink l f) := (sameLaws_modLink s l hf).keeps

/-- A link changes, its counts stay lawful, and a source link that is UP stays UP. -/
theorem keeps_modLink (s : State) (l : LinkId) {f : Link → Link}
    (hc : (s.link l).CountsLawful → (f (s.link l)).CountsLawful)
    (hu : ∀ n, l = .source n → (s.link l).state = .up → (f (s.link l)).state = .up) : KeepsLaws s (s.modLink l f) where
  grantOrder := id
  log := id
  counts h := linkCountsLawful_iff.mpr fun m => by
    rw [State.modLink_link]
    split
    · rename_i e
      subst e
      exact hc (h m)
    · exact h m
  handed h n x hx := by
    obtain ⟨hl, hd, hup, hr⟩ := h n x hx
    refine ⟨hl, hd, ?_, hr⟩
    rw [State.modLink_link]
    split
    · rename_i e
      subst e
      exact hu n rfl hup
    · exact hup

/-- A good cell on an UP link leaves no count running. -/
theorem keeps_heard (s : State) (l : LinkId) : KeepsLaws s (s.modLink l fun x => { x with alignCount := 0, badRun := 0 }) :=
  keeps_modLink s l (fun _ => ⟨fun _ => rfl, fun _ => rfl⟩) fun _ _ => id

/-- Cells leave the cells that wait. -/
theorem keeps_fewerHanded {H : Tab (List Arrival) 4} (tn : List (List (Fin 4)))
    (h : ∀ n x, x ∈ Tab.nth H n → x ∈ Tab.nth s.handed n) : KeepsLaws s { s with handed := H, turns := tn } :=
  ⟨id, id, id, fun hh n x hx => hh n x (h n x hx)⟩

theorem keeps_catchUp (n : Fin 4) (s : State) : KeepsLaws s (catchUp n s) := by
  rw [catchUp_eq]
  refine (keeps_fewerHanded s.turns fun m x hx => ?_).trans (sameLaws_takeArrivals _ _).keeps
  rw [Tab.nth_put] at hx
  split at hx
  · exact absurd hx List.not_mem_nil
  · exact hx

theorem keeps_catchUpAll (s : State) : KeepsLaws s (catchUpAll s) := by
  refine (keeps_fewerHanded s.turns.tail fun m x hx => ?_).trans (sameLaws_takeArrivals _ _).keeps
  rw [Tab.nth_all] at hx
  exact absurd hx List.not_mem_nil

/-- A source link leaves UP with none of its cells waiting any more, in a state whose counts are lawful. -/
theorem keeps_cutOff {n : Fin 4} {f : Link → Link} (d : Nat) (hf : (f (s.link (.source n))).CountsLawful) :
    KeepsLaws s (cutOff n f d s) where
  grantOrder := id
  log := id
  counts h := linkCountsLawful_iff.mpr fun l => by
    by_cases hl : l = .source n
    · rw [hl, cutOff_link]
      exact hf
    · rw [cutOff_onlyLink l hl]
      exact h l
  handed h m x hx := by
    rw [cutOff_handed] at hx
    split at hx
    · exact absurd hx List.not_mem_nil
    · rename_i hm
      have hne : LinkId.source m ≠ .source n := fun e => hm (LinkId.source.inj e)
      rw [cutOff_onlyLink _ hne]
      exact h m x hx

/-! ## The passages of a link (R164, R169) -/

/-- A link that leaves UP goes DOWN first; what follows at the blocks behind it leaves its receiver DOWN. -/
theorem leavesUp_cases (l : LinkId) (g : Link → Link) (s : State) : ∃ u, KeepsLaws s u ∧ (u.link l).state = .down ∧
    SameLaws u (linkLeavesUp l (goDown l (s.modLink l g))) := by
  cases l with
  | source n =>
    refine ⟨cutOff n (fun x => (g x).down) s.freeDraws s, keeps_cutOff _ ⟨fun _ => rfl, fun _ => rfl⟩, ?_, ?_⟩
    · rw [cutOff_link]
      rfl
    · rw [linkLeavesUp_source]
      exact sameLaws_takeArrivals _ _
  | consumer c =>
    have hd : goDown (.consumer c) (s.modLink (.consumer c) g) =
        s.modLink (.consumer c) fun x => { g x with state := .down, alignCount := 0, badRun := 0 } := by
      unfold goDown State.modLink
      dsimp only
      rw [Tab.upd_upd_same]
    refine ⟨_, hd ▸ keeps_modLink s (.consumer c) (fun _ => ⟨fun _ => rfl, fun _ => rfl⟩) nofun, ?_, ?_⟩
    · rw [hd, State.modLink_link_same]
    · have hp (v : State) : SameLaws v (portLoss c v) :=
        ((sameLaws_modPort v c _).trans (sameLaws_returnAll _ c)).trans (sameLaws_modPort _ c _)
      have hw (v : State) : SameLaws v ((portLoss c v).modLink (.consumer c) fun x => { x with wire := .quiet }) :=
        (hp v).trans (sameLaws_modLink _ _ fun _ => rfl)
      exact ((hw _).trans (sameLaws_freeLeaseOf _ c)).placeNotice

theorem keeps_beginAligning {l : LinkId} (h : (s.link l).state ≠ .up) : KeepsLaws s (beginAligning l s) := by
  have ha : KeepsLaws s (s.modLink l fun x =>
      { x with state := .aligning, alignCount := 0, badRun := 0, boundary := Config.searchStart s.freeDraws }) :=
    keeps_modLink s l (fun _ => ⟨fun _ => rfl, fun _ => rfl⟩) fun _ _ hu => absurd hu h
  exact ha.trans (SameLaws.keeps ⟨rfl, rfl, rfl, fun _ => rfl, id⟩)

theorem keeps_goodAligning {l : LinkId} (h : (s.link l).state = .aligning) : KeepsLaws s (goodAligning l s) := by
  have hup : KeepsLaws s (s.modLink l fun x => { x with state := .up, alignCount := 0, badRun := 0 }) :=
    keeps_modLink s l (fun _ => ⟨fun _ => rfl, fun _ => rfl⟩) fun _ _ _ => rfl
  unfold goodAligning
  split
  · refine hup.trans ?_
    cases l with
    | source n => exact .refl _
    | consumer c => exact (sameLaws_modPort _ c _).keeps
  · exact keeps_modLink s l (fun _ => ⟨fun hne => absurd h hne, fun _ => rfl⟩) fun _ _ => id

theorem keeps_badCellUp {l : LinkId} (h : (s.link l).state = .up) : KeepsLaws s (badCellUp l s) := by
  have hrun : KeepsLaws s (s.modLink l fun x => { x with badCells := satUp x.badCells }) :=
    keeps_modLink_aside s l fun _ => rfl
  obtain ⟨v, hv, hdown, hsame⟩ := leavesUp_cases l (fun x => { x with badCells := satUp x.badCells }) s
  unfold badCellUp
  dsimp only
  split
  · have hd := hv.trans hsame.keeps
    split
    · refine hd.trans (keeps_beginAligning ?_)
      rw [hsame.linkState, hdown]
      nofun
    · exact hd
  · refine hrun.trans (keeps_modLink _ l (fun _ => ⟨fun _ => rfl, fun hne => absurd ?_ hne⟩) fun _ _ => id)
    rw [State.modLink_link_same]
    exact h

/-! ## Received cells -/

theorem keeps_goodCell {k : State → State} {l : LinkId} (s : State)
    (hk : ∀ u, (u.link l).state = .up → KeepsLaws u (k u)) : KeepsLaws s (goodCell l k s) := by
  unfold goodCell
  split
  · exact .refl s
  · rename_i h
    exact keeps_goodAligning h
  · rename_i h
    refine (keeps_heard s l).trans (hk _ ?_)
    rw [State.modLink_link_same]
    exact h

/-- A cell that is passed on comes from a link that is UP, with no restart in progress (R168). -/
theorem keeps_passOn {k : State → State} {l : LinkId} (s : State)
    (hk : ∀ u, (u.link l).state = .up → u.restart = none → KeepsLaws u (k u)) : KeepsLaws s (passOn l k s) := by
  refine keeps_goodCell s fun u hu => ?_
  split
  · exact keeps_modLink_aside u l fun _ => rfl
  · rename_i hr
    exact hk u hu hr

theorem keeps_settle (l : LinkId) (s : State) : KeepsLaws s (settle l s) := by
  cases l with
  | source n => exact keeps_catchUp n s
  | consumer c => exact .refl s

theorem keeps_takeMalformed (l : LinkId) (s : State) : KeepsLaws s (takeMalformed l s) := by
  refine keeps_goodCell s fun u _ => ?_
  have hm : KeepsLaws u (u.modLink l fun x => { x with malformed := satUp x.malformed }) :=
    keeps_modLink_aside u l fun _ => rfl
  refine (hm.trans (SameLaws.keeps ?_)).trans (keeps_settle l _)
  exact ⟨rfl, rfl, rfl, fun _ => rfl, id⟩

/-- A well-formed cell that is passed on joins the cells of its link that wait, or is taken after them (log 22). -/
theorem keeps_passEvent {x : Arrival} (hd : datumOk x.kind x.datum = true)
    (hup : (s.link (.source x.addr.link)).state = .up) (hr : s.restart = none) : KeepsLaws s (passEvent x s) := by
  unfold passEvent
  dsimp only
  split
  · refine ⟨id, id, id, fun hh n y hy => ?_⟩
    rw [Tab.nth_upd] at hy
    split at hy
    · rename_i e
      subst e
      rcases List.mem_append.mp hy with hy | hy
      · exact hh _ y hy
      · obtain rfl := List.mem_singleton.mp hy
        exact ⟨rfl, hd, hup, hr⟩
    · exact hh n y hy
  · have hl : KeepsLaws s { s with late := s.late.tail } := SameLaws.keeps ⟨rfl, rfl, rfl, fun _ => rfl, id⟩
    exact (hl.trans (keeps_catchUp _ _)).trans (sameLaws_takeArrival _ x).keeps

/-! ## The grant -/

/-- The consumer served moves to the end of the Grant Order List (R115). -/
theorem grantOrder_moved {order : List ConsumerIdx} (h : order.Perm allConsumers) (c : ConsumerIdx) :
    (order.filter (fun d => d != c) ++ [c]).Perm allConsumers := by
  have hn : order.Nodup := h.nodup_iff.mpr (by decide)
  have hc : c ∈ order := h.mem_iff.mpr (mem_allConsumers c)
  rw [← hn.erase_eq_filter c]
  exact ((List.perm_append_singleton c _).trans (List.perm_cons_erase hc).symm).trans h

theorem keeps_grantRecord (k : ClassIdx) (c : ConsumerIdx) (r : RecIdx) (rest : List RecIdx) (s : State) :
    KeepsLaws s (grantRecord k c r rest s) := by
  rw [grantRecord_eq]
  exact ⟨fun h => grantOrder_moved h c, id, id, id⟩

/-! ## The soft restart -/

/-- A restart empties every block and leaves the receivers as they are, so it is lawful once no cell waits. -/
theorem keeps_emptyBlocks (job : RestartJob) (h : ∀ n, Tab.nth s.handed n = []) : KeepsLaws s (emptyBlocks job s) where
  grantOrder _ := List.Perm.refl _
  log _ := Nat.zero_le 16
  counts hc l := by
    have hl : (emptyBlocks job s).link l = { (s.link l).cleared with wire := (s.link l).wire.emptied } :=
      Tab.nth_each _ _ _
    rw [hl]
    exact hc l
  handed _ n x hx := by
    have hn : Tab.nth (emptyBlocks job s).handed n = [] := h n
    rw [hn] at hx
    exact absurd hx List.not_mem_nil

theorem keeps_beginRestart (job : RestartJob) (s : State) : KeepsLaws s (beginRestart job s) := by
  refine (keeps_catchUpAll s).trans (keeps_emptyBlocks job fun n => ?_)
  rw [catchUpAll_eq]
  exact Tab.nth_all _ n

theorem keeps_finishRestart (job : RestartJob) (s : State) : KeepsLaws s (finishRestart job s) := by
  have hend (u : State) : KeepsLaws u { u with restart := none } := by
    refine ⟨id, id, id, fun h n x hx => ?_⟩
    obtain ⟨hl, hd, hup, -⟩ := h n x hx
    exact ⟨hl, hd, hup, rfl⟩
  unfold finishRestart
  dsimp only
  refine (KeepsLaws.trans ?_ (hend _)).trans (sameLaws_applyHold _).keeps
  have hp : SameLaws s { s with ports := Tab.each s.ports fun p => { p with replay := none } } :=
    ⟨rfl, rfl, rfl, fun _ => rfl, id⟩
  split
  · exact ((hp.trans (sameLaws_modPort _ _ _)).trans (sameLaws_modPort _ _ _)).keeps
  · exact (hp.trans (sameLaws_modPort _ _ _)).keeps

/-! ## Requests -/

/-- The operation keeps the small laws. -/
def OpKeepsLaws (op : State → Answer) : Prop := ∀ s, KeepsLaws s (op s).state

/-- The operation touches nothing that the small laws read. -/
def OpSameLaws (op : State → Answer) : Prop := ∀ s, SameLaws s (op s).state

theorem OpSameLaws.keeps {op : State → Answer} (h : OpSameLaws op) : OpKeepsLaws op := fun s => (h s).keeps

theorem OpKeepsLaws.holderOnly {op : State → Answer} (h : OpKeepsLaws op) (c : ConsumerIdx) :
    OpKeepsLaws (holderOnly c op) := fun s => by
  unfold Machine.holderOnly
  split
  · exact h s
  · exact .refl s

theorem keeps_carryOut {op : State → Answer} (ho : OpKeepsLaws op) (c : ConsumerIdx) (seq : Byte) (s : State) :
    KeepsLaws s (carryOut c seq op s) := by
  unfold carryOut
  dsimp only
  split
  · exact ho s
  · refine (ho s).trans (SameLaws.keeps ?_)
    exact ((sameLaws_modPort _ c _).trans (sameLaws_modPort _ c _)).trans (sameLaws_renewLease _ c)

theorem keeps_request {op : State → Answer} (ho : OpKeepsLaws op) (c : ConsumerIdx) (seq : Byte) (s : State) :
    KeepsLaws s (request c seq op s) := by
  refine keeps_passOn s fun u _ _ => ?_
  unfold intake
  split
  · exact (sameLaws_modPort u c _).keeps
  · split
    · exact keeps_carryOut ho c seq u
    · split
      · exact (((sameLaws_modPort u c _).trans (sameLaws_modPort _ c _)).trans (sameLaws_renewLease _ c)).keeps
      · exact keeps_carryOut ho c seq u

theorem opSameLaws_claim (c : ConsumerIdx) : OpSameLaws (opClaim c) := fun s => by
  unfold opClaim
  dsimp only
  split
  · have hl : SameLaws s { s with lease := some ⟨c, leaseSpan s⟩ } := ⟨rfl, rfl, rfl, fun _ => rfl, id⟩
    exact hl.placeNotice
  · split <;> exact .refl s

theorem opSameLaws_read (table : Byte) (index : Half) (page : Byte) : OpSameLaws (opRead table index page) := fun s => by
  unfold opRead
  split
  · exact .refl s
  · split <;> exact .refl s

theorem opSameLaws_writeDevice (index : Half) (page : Byte) (image : Page) :
    OpSameLaws (opWriteDevice index page image) := fun s => by
  unfold opWriteDevice
  split
  · split
    · exact .refl s
    · split
      · exact .refl s
      · rename_i d _
        have hd : SameLaws s { s with device := d } := ⟨rfl, rfl, rfl, fun _ => rfl, id⟩
        exact (hd.trans (sameLaws_applyHold _)).placeNotice
  · exact .refl s

theorem opSameLaws_writeSteering (which : Bank) (index : Half) (page : Byte) (image : Page) :
    OpSameLaws (opWriteSteering which index page image) := fun s => by
  unfold opWriteSteering
  split
  · split
    · exact .refl s
    · split
      · exact .refl s
      · split
        · exact .refl s
        · cases which <;> exact ⟨rfl, rfl, rfl, fun _ => rfl, id⟩
  · exact .refl s

theorem opSameLaws_writeClass (index : Half) (page : Byte) (image : Page) :
    OpSameLaws (opWriteClass index page image) := fun s => by
  unfold opWriteClass
  split
  · split
    · exact .refl s
    · split
      · exact .refl s
      · split
        · exact .refl s
        · exact sameLaws_modClass s _ _
  · exact .refl s

theorem opSameLaws_writeConsumer (index : Half) (page : Byte) (image : Page) :
    OpSameLaws (opWriteConsumer index page image) := fun s => by
  unfold opWriteConsumer
  split
  · split
    · exact .refl s
    · split
      · exact .refl s
      · split
        · exact .refl s
        · exact sameLaws_modPort s _ _
  · exact .refl s

theorem opSameLaws_write (table : Byte) (index : Half) (page : Byte) (image : Page) :
    OpSameLaws (opWrite table index page image) := fun s => by
  unfold opWrite
  split
  · exact .refl s
  · split
    · exact opSameLaws_writeDevice index page image s
    · exact opSameLaws_writeSteering _ index page image s
    · exact opSameLaws_writeClass index page image s
    · exact opSameLaws_writeConsumer index page image s
    all_goals exact .refl s

theorem opSameLaws_swap : OpSameLaws opSwap := fun s => by
  unfold opSwap
  split <;> exact ⟨rfl, rfl, rfl, fun _ => rfl, id⟩

theorem opSameLaws_classEnable (index : Half) : OpSameLaws (opClassEnable index) := fun s => by
  unfold opClassEnable
  split
  · unfold enableClass
    split
    · split
      · exact .refl s
      · exact sameLaws_modClass s _ _
    · exact sameLaws_modClass s _ _
    · exact .refl s
  · exact .refl s

theorem opSameLaws_classDisable (index : Half) (flag : Byte) : OpSameLaws (opClassDisable index flag) := fun s => by
  unfold opClassDisable
  split
  · split
    · exact .refl s
    · unfold disableClass
      split
      · exact .refl s
      · exact (sameLaws_closeClass s _ _).placeNotice
      · split
        · exact (sameLaws_closeClass s _ _).placeNotice
        · exact .refl s
  · exact .refl s

theorem opSameLaws_consumerEnable (index : Half) : OpSameLaws (opConsumerEnable index) := fun s => by
  unfold opConsumerEnable
  split
  · unfold enableConsumer
    split
    · exact sameLaws_modPort s _ _
    all_goals exact .refl s
  · exact .refl s

theorem opSameLaws_consumerDisable (index : Half) : OpSameLaws (opConsumerDisable index) := fun s => by
  have hp (n : ConsumerIdx) : SameLaws s (portDisable n s) :=
    ((sameLaws_modPort s n _).trans (sameLaws_returnAll _ n)).trans (sameLaws_modPort _ n _)
  unfold opConsumerDisable
  split
  · unfold disableConsumer
    split
    · exact .refl s
    · exact (hp _).placeNotice
  · exact .refl s

/-- Taking an entry leaves a shorter log. -/
theorem opSameLaws_takeLog (index : Half) (page : Byte) : OpSameLaws (opTakeLog index page) := fun s => by
  unfold opTakeLog
  split
  · split
    · exact .refl s
    · rename_i e rest hlog
      have hrest : SameLaws s { s with log := rest } := by
        refine ⟨rfl, rfl, rfl, fun _ => rfl, fun h => ?_⟩
        unfold LogWithinCapacity at h
        rw [hlog] at h
        exact Nat.le_of_succ_le h
      split
      · exact .refl s
      · dsimp only [okay]
        split
        · exact hrest
        · exact .refl s
  · exact .refl s

theorem opSameLaws_clearCounts : OpSameLaws opClearCounts := fun s => by
  have hl (l : LinkId) : (s.cleared.link l).receiver = (s.link l).receiver := by
    rw [State.cleared_link]
    rfl
  exact ⟨rfl, rfl, rfl, hl, id⟩

theorem opKeepsLaws_restart (c : ConsumerIdx) (seq flag : Byte) : OpKeepsLaws (opRestart c seq flag) := fun s => by
  unfold opRestart
  split
  · exact .refl s
  · split
    · exact .refl s
    · exact keeps_beginRestart _ s

/-! ## Every command -/

/-- At POR no cell waits, the log is empty, and no count runs. -/
theorem keeps_execPor (h : execPor s = .next t) : KeepsLaws s t := by
  obtain rfl := Host.Outcome.next.inj h
  refine ⟨fun _ => List.Perm.refl _, fun _ => Nat.zero_le 16, fun _ l => ?_, fun _ n x hx => ?_⟩
  · rw [State.link_mk, Tab.nth_each]
    exact ⟨fun _ => rfl, fun _ => rfl⟩
  · have hn : Tab.nth State.inPor.handed n = [] := Tab.nth_all _ n
    dsimp only at hx
    rw [hn] at hx
    exact absurd hx List.not_mem_nil

theorem keeps_execResetRelease (h : execResetRelease s = .next t) : KeepsLaws s t := by
  obtain rfl := Host.Outcome.next.inj h
  split
  · refine SameLaws.keeps ⟨rfl, rfl, rfl, fun l => ?_, id⟩
    rw [State.link_mk, Tab.nth_each, State.nth_links]
    rfl
  · exact .refl s

theorem keeps_execSignalPresent {l : LinkId} (h : execSignalPresent l s = .next t) : KeepsLaws s t := by
  have hs : KeepsLaws s (s.modLink l fun x => { x with signal := true }) := keeps_modLink_aside s l fun _ => rfl
  obtain rfl := Host.Outcome.next.inj h
  split
  · rename_i hd
    refine hs.trans (keeps_beginAligning ?_)
    rw [State.modLink_link_same]
    exact hd.2 ▸ nofun
  · exact hs

theorem keeps_execLossOfSignal {l : LinkId} (h : execLossOfSignal l s = .next t) : KeepsLaws s t := by
  have hs : KeepsLaws s (s.modLink l fun x => { x with signal := false }) := keeps_modLink_aside s l fun _ => rfl
  obtain rfl := Host.Outcome.next.inj h
  split
  · exact hs
  · rename_i ha
    refine hs.trans (keeps_modLink _ l (fun _ => ⟨fun _ => rfl, fun _ => rfl⟩) fun n _ hu => ?_)
    rw [State.modLink_link_same] at hu
    exact nomatch ha.symm.trans hu
  · obtain ⟨u, hu, -, hsame⟩ := leavesUp_cases l (fun x => { x with signal := false }) s
    exact hu.trans hsame.keeps

theorem keeps_execGoodCellAligning {l : LinkId} (h : execGoodCellAligning l s = .next t) : KeepsLaws s t := by
  obtain rfl := Host.Outcome.next.inj h
  split
  · exact .refl s
  · rename_i ha
    exact keeps_goodAligning ha
  · exact .refl s

theorem keeps_execBadCell {l : LinkId} (h : execBadCell l s = .next t) : KeepsLaws s t := by
  obtain rfl := Host.Outcome.next.inj h
  split
  · exact .refl s
  · exact keeps_modLink s l (fun _ => ⟨fun _ => rfl, fun _ => rfl⟩) fun _ _ => id
  · rename_i hup
    exact keeps_badCellUp hup

theorem keeps_execMalformedCell {l : LinkId} (h : execMalformedCell l s = .next t) : KeepsLaws s t := by
  obtain rfl := Host.Outcome.next.inj h
  exact keeps_takeMalformed l s

theorem keeps_execIdle {l : LinkId} (h : execIdle l s = .next t) : KeepsLaws s t := by
  obtain rfl := Host.Outcome.next.inj h
  exact keeps_goodCell s fun u _ => keeps_settle l u

theorem keeps_execEvent {n : Fin 4} {m : Fin 16} {ch : Fin 64} {kind : Kind} {datum : Half}
    (h : execEvent n m ch kind datum s = .next t) : KeepsLaws s t := by
  obtain rfl := Host.Outcome.next.inj h
  split
  · rename_i hd
    exact keeps_passOn s fun _ hup hr => keeps_passEvent hd hup hr
  · exact keeps_takeMalformed _ s

theorem keeps_execAck {c : Fin 6} {tags : List Tag} (h : execAck c tags s = .next t) : KeepsLaws s t := by
  obtain rfl := Host.Outcome.next.inj h
  split
  · exact keeps_passOn s fun u _ _ => (SameLaws.foldl (fun v => sameLaws_takeAckTag v c) tags u).keeps
  · exact keeps_takeMalformed _ s

theorem keeps_execNackBusy {c : Fin 6} {tag : Tag} (h : execNackBusy c tag s = .next t) : KeepsLaws s t := by
  obtain rfl := Host.Outcome.next.inj h
  refine keeps_passOn s fun u _ _ => SameLaws.keeps ?_
  split
  · exact (sameLaws_failure u c _ _ _).placeNotice
  · exact sameLaws_modPort u c _

theorem keeps_execNackReject {c : Fin 6} {tag : Tag} (h : execNackReject c tag s = .next t) : KeepsLaws s t := by
  obtain rfl := Host.Outcome.next.inj h
  refine keeps_passOn s fun u _ _ => SameLaws.keeps ?_
  split
  · exact ((sameLaws_modPort u c _).trans (sameLaws_abandon _ _ .rejected)).placeNotice
  · exact sameLaws_modPort u c _

theorem keeps_execLoad {c : Fin 6} {level : Fin 16} (h : execLoad c level s = .next t) : KeepsLaws s t := by
  obtain rfl := Host.Outcome.next.inj h
  exact keeps_passOn s fun u _ _ => (sameLaws_modPort u c _).keeps

theorem keeps_execExpiry {r : Fin 512} (h : execExpiry r s = .next t) : KeepsLaws s t := by
  obtain rfl := Host.Outcome.next.inj h
  split
  · split
    · exact ((sameLaws_failure s _ _ r _).trans (sameLaws_suspectCheck _ _)).placeNotice.keeps
    · exact .refl s
  all_goals exact .refl s

theorem keeps_execGrant (h : execGrant s = .next t) : KeepsLaws s t := by
  obtain rfl := Host.Outcome.next.inj h
  split
  · exact .refl s
  · split
    · exact .refl s
    · exact keeps_grantRecord _ _ _ _ s

theorem keeps_execCellSlot {l : LinkId} (h : execCellSlot l s = .next t) : KeepsLaws s t := by
  obtain rfl := Host.Outcome.next.inj h
  refine SameLaws.keeps ?_
  split
  · exact .refl s
  · split
    · exact sameLaws_putOnWire s _ _
    · split
      · exact .refl s
      · split
        · exact sameLaws_putOnWire s _ _
        · exact sameLaws_putOnWire s _ _
        · exact sameLaws_consumerSlot s _

theorem keeps_execSendCompletion {c : Fin 6} (h : execSendCompletion c s = .next t) : KeepsLaws s t := by
  have hq : SameLaws s (quieted c s) := sameLaws_modLink s _ fun _ => rfl
  obtain rfl := Host.Outcome.next.inj h
  refine SameLaws.keeps ?_
  split
  · exact .refl s
  · exact hq
  · split
    · exact hq.trans (sameLaws_deliverSent _ c _)
    all_goals exact .refl s

theorem keeps_execLeaseTimerExpiry (h : execLeaseTimerExpiry s = .next t) : KeepsLaws s t := by
  obtain rfl := Host.Outcome.next.inj h
  refine SameLaws.keeps ?_
  split
  · exact .refl s
  · split <;> exact ⟨rfl, rfl, rfl, fun _ => rfl, id⟩

theorem keeps_execEndOfRestart (h : execEndOfRestart s = .next t) : KeepsLaws s t := by
  obtain rfl := Host.Outcome.next.inj h
  split
  · exact .refl s
  · exact keeps_finishRestart _ s

theorem keeps_execTimebaseCount (h : execTimebaseCount s = .next t) : KeepsLaws s t := by
  obtain rfl := Host.Outcome.next.inj h
  split
  · exact .refl s
  · exact SameLaws.keeps ⟨rfl, rfl, rfl, fun _ => rfl, id⟩

/-- A request whose operation keeps the small laws. -/
theorem keeps_of_request {op : State → Answer} (ho : OpKeepsLaws op) {c : ConsumerIdx} {seq : Byte}
    (h : (.next (request c seq op s) : Result) = .next t) : KeepsLaws s t :=
  Host.Outcome.next.inj h ▸ keeps_request ho c seq s

/-- The same for a request that needs the lease. -/
theorem keeps_of_holder_request {op : State → Answer} (ho : OpKeepsLaws op) {c : ConsumerIdx} {seq : Byte}
    (h : (.next (request c seq (holderOnly c op) s) : Result) = .next t) : KeepsLaws s t :=
  keeps_of_request (ho.holderOnly c) h

/-- Every command keeps the small laws. -/
theorem exec_keepsLaws {i : Instr} (h : exec i s = .next t) : KeepsLaws s t := by
  cases i with
  | por => exact keeps_execPor h
  | resetRelease => exact keeps_execResetRelease h
  | signalPresent l => exact keeps_execSignalPresent h
  | lossOfSignal l => exact keeps_execLossOfSignal h
  | goodCellAligning l => exact keeps_execGoodCellAligning h
  | badCell l => exact keeps_execBadCell h
  | malformedCell l => exact keeps_execMalformedCell h
  | idle l => exact keeps_execIdle h
  | event n m ch kind datum => exact keeps_execEvent h
  | ack c tags => exact keeps_execAck h
  | nackBusy c tag => exact keeps_execNackBusy h
  | nackReject c tag => exact keeps_execNackReject h
  | load c level => exact keeps_execLoad h
  | expiry r => exact keeps_execExpiry h
  | grant => exact keeps_execGrant h
  | cellSlot l => exact keeps_execCellSlot h
  | sendCompletion c => exact keeps_execSendCompletion h
  | leaseTimerExpiry => exact keeps_execLeaseTimerExpiry h
  | endOfRestart => exact keeps_execEndOfRestart h
  | timebaseCount => exact keeps_execTimebaseCount h
  | badOp c seq op => exact keeps_of_request (OpSameLaws.keeps fun u => .refl u) h
  | claim c seq => exact keeps_of_request (opSameLaws_claim c).keeps h
  | read c seq table index page => exact keeps_of_request (opSameLaws_read table index page).keeps h
  | release c seq =>
    exact keeps_of_holder_request (OpSameLaws.keeps fun _ => ⟨rfl, rfl, rfl, fun _ => rfl, id⟩) h
  | write c seq table index page image =>
    exact keeps_of_holder_request (opSameLaws_write table index page image).keeps h
  | writeDevice c seq index page image =>
    exact keeps_of_holder_request (opSameLaws_writeDevice index page image).keeps h
  | writeSteering c seq which index page image =>
    exact keeps_of_holder_request (opSameLaws_writeSteering which index page image).keeps h
  | writeClass c seq index page image =>
    exact keeps_of_holder_request (opSameLaws_writeClass index page image).keeps h
  | writeConsumer c seq index page image =>
    exact keeps_of_holder_request (opSameLaws_writeConsumer index page image).keeps h
  | swap c seq => exact keeps_of_holder_request opSameLaws_swap.keeps h
  | classEnable c seq index => exact keeps_of_holder_request (opSameLaws_classEnable index).keeps h
  | classDisable c seq index flag => exact keeps_of_holder_request (opSameLaws_classDisable index flag).keeps h
  | consumerEnable c seq index => exact keeps_of_holder_request (opSameLaws_consumerEnable index).keeps h
  | consumerDisable c seq index => exact keeps_of_holder_request (opSameLaws_consumerDisable index).keeps h
  | setTime c seq value =>
    exact keeps_of_holder_request (OpSameLaws.keeps fun _ => ⟨rfl, rfl, rfl, fun _ => rfl, id⟩) h
  | takeLog c seq index page => exact keeps_of_holder_request (opSameLaws_takeLog index page).keeps h
  | clearCounts c seq => exact keeps_of_holder_request opSameLaws_clearCounts.keeps h
  | freeze c seq =>
    exact keeps_of_holder_request (OpSameLaws.keeps fun _ => ⟨rfl, rfl, rfl, fun _ => rfl, id⟩) h
  | restart c seq flag => exact keeps_of_holder_request (opKeepsLaws_restart c seq flag) h

end

/-- Settles O54: the command at the front of the queue is carried out in a state that differs in the queue alone. -/
theorem smallLawsAreKept : Obligations.SmallLawsAreKept := by
  intro s t h
  have hk : KeepsLaws s t := by
    unfold step at h
    split at h
    · exact Host.Outcome.next.inj h ▸ .refl s
    · have hq (q : List Instr) : KeepsLaws s { s with pending := q } :=
        SameLaws.keeps ⟨rfl, rfl, rfl, fun _ => rfl, id⟩
      exact (hq _).trans (exec_keepsLaws h)
  exact ⟨hk.grantOrder, hk.log, hk.counts, hk.handed⟩

end Sys2Proof.Machine
end

section
/-! # ACK: what an accepted tag completes, and a cell as its tags one after another: O22 -/

namespace Sys2Proof.Machine

/-! ## A completion, in full -/

/-- The port's own part of an accepted ACK tag (R121). -/
def Port.acked (p : Port) : Port := { p with acksTaken := satUp p.acksTaken, consecutive := 0 }

/-- A class record once one of its dispatched records has been completed (R14). -/
def ClassRecord.served (x : ClassRecord) : ClassRecord :=
  { x with dispatchedCount := x.dispatchedCount - 1, completed := satUp x.completed }

/-- The notice set once a record of class `k` has been completed (R76, R51). -/
def completionNotices (k : ClassIdx) (s : State) : NoticeSet :=
  { s.notices with
    idle := if (s.cls k).served.drainEnds then addTo s.notices.idle k.val else s.notices.idle
    hold := s.notices.hold || holdRaises s (s.freeCount + 1) }

/-- What a completion leaves before the Notice Unit tests, with the consumer's link changed by `W`. -/
def completedRecord (k : ClassIdx) (c : ConsumerIdx) (r : RecIdx) (W : Link → Link) (s : State) : State :=
  { s with
    links := Tab.upd s.links (linkIndex (.consumer c)) W
    records := Tab.upd s.records r EventRecord.freed
    freeList := s.freeList ++ [r]
    classes := Tab.upd s.classes k fun x => x.served.drained
    ports := Tab.upd s.ports c fun p => p.acked.dropped r
    hold := holdNext s (s.freeCount + 1)
    notices := completionNotices k s }

section

variable {c : ConsumerIdx} {r : RecIdx} {k : ClassIdx} {tag : Tag} {s : State}

/-- A completion claim is the counters it moves and then the freeing of its record (R14, R121, R5). -/
theorem complete_fields (h : DispatchedTo s r k c) : complete c k r s = completedRecord k c r (Link.withdrawn r) s := by
  obtain ⟨v, hv⟩ : ∃ v, v = (s.modClass k fun x => { x with completed := satUp x.completed }).modPort c
    Port.acked := ⟨_, rfl⟩
  have hd : DispatchedTo v r k c := by
    rw [hv]
    exact h
  have hk : v.cls k = { s.cls k with completed := satUp (s.cls k).completed } := by
    rw [hv]
    exact Tab.nth_upd_same _ _ _
  calc complete c k r s = freeRecord r v := by rw [hv]; rfl
    _ = completedRecord k c r (Link.withdrawn r) s := by
      rw [freeRecord_dispatched hd, hk, hv]
      unfold completedRecord
      rw [State.modPort_ports, Tab.upd_upd_same, State.modPort_classes, State.modClass_classes, Tab.upd_upd_same]
      rfl

/-- A completion and the cell heard before it change the consumer's link one after the other. -/
theorem completedRecord_heardFrom (W : Link → Link) :
    completedRecord k c r W (heardFrom c s) = completedRecord k c r (fun l => W l.heard) s := by
  unfold completedRecord heardFrom
  rw [State.modLink_links, Tab.upd_upd_same]
  rfl

/-! ## One tag -/

theorem takeAckTag_accepted (h : Accepted s c tag k) :
    takeAckTag c s tag = placeNotice (completedRecord k c tag.index (Link.withdrawn tag.index) s) := by
  rw [takeAckTag, acceptedClass_some_iff.mpr h, ← complete_fields h.1]

theorem takeAckTag_stale (h : acceptedClass s c tag = none) : takeAckTag c s tag = countStale c s := by
  rw [takeAckTag, h]

theorem takeAckTag_restart : (takeAckTag c s tag).restart = s.restart := by
  cases h : acceptedClass s c tag with
  | none =>
    rw [takeAckTag_stale h]
    rfl
  | some k =>
    rw [takeAckTag_accepted (acceptedClass_some_iff.mp h), placeNotice_frame]
    rfl

/-- A tag leaves of the consumer's link all but the cell on its wire, which an accepted tag may withdraw. -/
theorem takeAckTag_link : ∃ w,
    (takeAckTag c s tag).link (.consumer c) = { s.link (.consumer c) with wire := w } := by
  cases h : acceptedClass s c tag with
  | none => exact ⟨_, by rw [takeAckTag_stale h]; rfl⟩
  | some k =>
    rw [takeAckTag_accepted (acceptedClass_some_iff.mp h), placeNotice_link]
    exact ⟨_, Tab.nth_upd_same _ _ _⟩

/-! ## One cell -/

/-- Hearing one more good cell changes nothing of a link whose bad-cell run is over. -/
theorem heardFrom_of_heard (h : (s.link (.consumer c)).heard = s.link (.consumer c)) : heardFrom c s = s := by
  unfold heardFrom State.modLink
  rw [Tab.upd_eq_self _ _ _ h]

/-- A tag that is taken after its cell has been heard leaves the link as heard. -/
theorem heardFrom_takeAckTag :
    heardFrom c (takeAckTag c (heardFrom c s) tag) = takeAckTag c (heardFrom c s) tag := by
  obtain ⟨w, hw⟩ := takeAckTag_link (c := c) (s := heardFrom c s) (tag := tag)
  apply heardFrom_of_heard
  rw [hw, heardFrom_link, if_pos rfl]
  rfl

theorem tagCountOk_iff {tags : List Tag} : tagCountOk tags = true ↔ 1 ≤ tags.length ∧ tags.length ≤ 4 := by
  unfold tagCountOk
  rw [Bool.and_eq_true, decide_eq_true_iff, decide_eq_true_iff]

/-- An ACK of one to four tags: the link hears the cell, and the tags are taken in cell order (R120). -/
theorem exec_ack {tags : List Tag} (hup : (s.link (.consumer c)).state = .up) (hr : s.restart = none)
    (hok : tagCountOk tags = true) : exec (.ack c tags) s = .next (tags.foldl (takeAckTag c) (heardFrom c s)) := by
  show execAck c tags s = _
  rw [execAck, if_pos hok, passOn_up hup hr]
  rfl

theorem exec_ack_one (hp : Passing s (.consumer c)) :
    exec (.ack c [tag]) s = .next (takeAckTag c (heardFrom c s) tag) :=
  exec_ack hp.up hp.noRestart rfl

/-- An ACK of several tags is the ACK of its first tag and then that of the others (R120). -/
theorem exec_ack_cons {first : Tag} {rest : List Tag} (hp : Passing s (.consumer c)) (h1 : 1 ≤ rest.length)
    (h3 : rest.length ≤ 3) : ∃ u, exec (.ack c [first]) s = .next u ∧
      exec (.ack c (first :: rest)) s = exec (.ack c rest) u := by
  have hup : ((takeAckTag c (heardFrom c s) first).link (.consumer c)).state = .up := by
    obtain ⟨w, hw⟩ := takeAckTag_link (c := c) (s := heardFrom c s) (tag := first)
    rw [hw]
    exact (heardFrom_link_state c s _).trans hp.up
  have hr : (takeAckTag c (heardFrom c s) first).restart = none := takeAckTag_restart.trans hp.noRestart
  have hall : tagCountOk (first :: rest) = true := tagCountOk_iff.mpr ⟨Nat.le_add_left 1 _, Nat.succ_le_succ h3⟩
  have hrest : tagCountOk rest = true := tagCountOk_iff.mpr ⟨h1, h3.trans (by decide)⟩
  refine ⟨_, exec_ack_one hp, ?_⟩
  rw [exec_ack hp.up hp.noRestart hall, List.foldl_cons, exec_ack hup hr hrest, heardFrom_takeAckTag]

/-- An ACK of one accepted tag, in full. -/
theorem exec_ack_accepted (hp : Passing s (.consumer c)) (ha : Accepted s c tag k) :
    exec (.ack c [tag]) s =
      .next (placeNotice (completedRecord k c tag.index (fun l => l.heard.withdrawn tag.index) s)) := by
  rw [exec_ack_one hp, takeAckTag_accepted (s := heardFrom c s) ha, completedRecord_heardFrom]

end

/-- Settles O22: the cell is its tags one after another, and an accepted tag leaves `completedRecord`, part by part. -/
theorem ackCompletesRecords : Obligations.AckCompletesRecords := by
  refine ⟨fun c first rest s hp h1 h3 => exec_ack_cons hp h1 h3, fun c tag k x s hp ha hx => ?_⟩
  have hx' : x = (s.cls k).served := hx
  obtain ⟨u, hu⟩ : ∃ u, u = completedRecord k c tag.index (fun l => l.heard.withdrawn tag.index) s := ⟨_, rfl⟩
  have hpc : u.port c = (s.port c).acked.dropped tag.index := hu ▸ Tab.nth_upd_same _ _ _
  have hpd : ∀ d, d ≠ c → u.port d = s.port d := fun d hd => hu ▸ Tab.nth_upd_ne _ _ hd
  have hslot : ∀ d, (u.port d).noticeSlot = (s.port d).noticeSlot := fun d => by
    by_cases hd : d = c
    · rw [hd, hpc]
      rfl
    · rw [hpd d hd]
  have htest := placeNotice_test s u (by rw [hu]; rfl) hslot
  refine ⟨placeNotice u, hu ▸ exec_ack_accepted hp ha, ?_, ⟨?_, fun q hq => ?_, ?_⟩, fun j hj => ?_, ?_,
    fun m hm => ?_, ?_, placeNotice_port_of hpc, fun d hd => placeNotice_port_of (hpd d hd), ?_⟩
  · have h := placeNotice_frame u
    generalize placeNotice u = t at h ⊢
    rw [h, hu]
    rfl
  · rw [placeNotice_rcd, hu]
    exact Tab.nth_upd_same _ _ _
  · rw [placeNotice_rcd, hu]
    exact Tab.nth_upd_ne _ _ hq
  · rw [placeNotice_frame, hu]
    rfl
  · rw [placeNotice_cls, hu]
    exact Tab.nth_upd_ne _ _ hj
  · rw [placeNotice_cls, hu, hx']
    exact Tab.nth_upd_same _ _ _
  · rw [placeNotice_link, hu]
    exact Tab.nth_upd_ne _ _ (linkIndex_inj.not.mpr hm)
  · rw [placeNotice_link, hu]
    exact Tab.nth_upd_same _ _ _
  · rw [hx']
    rwa [show u.notices = completionNotices k s from by rw [hu]; rfl] at htest

end Sys2Proof.Machine
end

section
/-! # TAKE_LOG: what the oldest entry's pages carry, and which of them removes it: O48 -/

namespace Sys2Proof.Machine

section

variable {index : Half} {page : Byte} {s u : State} {e : LogEntry} {rest : List LogEntry} {d : Page} {n : Nat}

/-! ## The pages of an entry (section 11.9) -/

theorem takeLogPage_zero_carries (s : State) (e : LogEntry) (after : Nat) : ∃ d, takeLogPage s e after 0 = some d ∧
    d.o0 = e.number ∧ d.o1.toNat = e.cls.val ∧
    (be16 d.o2 d.o3).toNat = e.addr.link.val * 1024 + e.addr.module.val * 64 + e.addr.channel.val ∧
    d.o4.toNat =
      (match e.kind with | .pulse => 1 | .level => 2 | .value => 3) +
        16 * (match e.reason with | .exhausted => 1 | .rejected => 2 | .purged => 3 | .displaced => 4) ∧
    be16 d.o5 d.o6 = e.datum ∧ d.o7 = e.superseded := by
  refine ⟨_, rfl, rfl, octet_toNat (by omega), ?_, ?_, be16_octets _, rfl⟩
  · rw [be16_octets]
    exact half_toNat (levelIndex_lt e.addr)
  · cases e.kind <;> cases e.reason <;> rfl

theorem takeLogPage_one_carries (s : State) (e : LogEntry) (after : Nat) : ∃ d, takeLogPage s e after 1 = some d ∧
    be32 d.o0 d.o1 d.o2 d.o3 = e.arrival ∧ be32 d.o4 d.o5 d.o6 d.o7 = e.abandonStamp :=
  ⟨_, rfl, be32_octets _, be32_octets _⟩

/-! ## The outcomes of TAKE_LOG, in the order of its tests (R139) -/

theorem opTakeLog_badIndex (h : index ≠ 0 ∨ 2 < page.toNat) : opTakeLog index page u = deny .badIndex u := by
  refine if_neg ?_
  rintro ⟨hi, hp⟩
  exact h.elim (absurd hi) (Nat.not_lt.mpr hp)

theorem opTakeLog_empty (hp : page.toNat ≤ 2) (hl : u.log = []) : opTakeLog 0 page u = deny .empty u := by
  unfold opTakeLog
  rw [if_pos ⟨rfl, hp⟩, hl]

/-- The oldest entry answers with the page asked for, and leaves the log with page 2 alone. -/
theorem opTakeLog_answered (hn : page.toNat = n) (hp : n ≤ 2) (hl : u.log = e :: rest)
    (hd : takeLogPage u e rest.length n = some d) :
    opTakeLog 0 page u = okay d (if n = 2 then { u with log := rest } else u) := by
  subst hn
  unfold opTakeLog
  rw [if_pos ⟨rfl, hp⟩, hl]
  dsimp only
  rw [hd]

/-! ## The request -/

variable {c : ConsumerIdx} {seq : Byte}

/-- TAKE_LOG of page `n` of the oldest entry, by the holder: hearing the REQUEST changes neither the log nor the page. -/
theorem exec_takeLog_answered (hc : HolderAsks s c seq) (hn : page.toNat = n) (hp : n ≤ 2) (hl : s.log = e :: rest)
    (hd : takeLogPage s e rest.length n = some d) : exec (.takeLog c seq 0 page) s =
      .next (replied c seq .ok d (if n = 2 then { s with log := rest } else s)) := by
  have hop := opTakeLog_answered (u := heardFrom c s) hn hp hl hd
  refine congrArg Host.Outcome.next (request_holder hc (hop.trans ?_))
  split <;> rfl

end

/-- Settles O48: the errors, then each page of the oldest entry. -/
theorem takeLogReadsOldestEntry : Obligations.TakeLogReadsOldestEntry := by
  intro c seq index page s hc
  refine ⟨fun h => ?_, ?_, ?_⟩
  · exact congrArg Host.Outcome.next (request_holder_denied hc (opTakeLog_badIndex h))
  · rintro rfl hp hl
    exact congrArg Host.Outcome.next (request_holder_denied hc (opTakeLog_empty (u := heardFrom c s) hp hl))
  · rintro e rest rfl hl
    refine ⟨fun hn => ?_, fun hn => ?_, fun hn => ?_⟩
    · obtain ⟨d, hd, carries⟩ := takeLogPage_zero_carries s e rest.length
      exact ⟨d, exec_takeLog_answered hc hn (by decide) hl hd, carries⟩
    · obtain ⟨d, hd, carries⟩ := takeLogPage_one_carries s e rest.length
      exact ⟨d, exec_takeLog_answered hc hn (by decide) hl hd, carries⟩
    · exact exec_takeLog_answered hc hn le_rfl hl rfl

end Sys2Proof.Machine
end

section
/-! # Requests and other cells before a block takes them: O14 and O33 -/

namespace Sys2Proof.Machine

section

variable {i : Instr} {l : LinkId} {c : ConsumerIdx} {seq : Byte} {s : State} {op : State → Answer} {x : Response}

/-! ## What each command that is a cell does with its cell -/

/-- A REQUEST is an operation for its sender; one that needs the lease is refused to any other than the holder (R149). -/
theorem exec_request (h : requestOf i = some (c, seq)) :
    ∃ op, (∀ s, exec i s = .next (request c seq op s)) ∧ (needsLease i = true → ∃ inner, op = holderOnly c inner) := by
  cases i with
  | badOp | claim | read =>
    obtain ⟨rfl, rfl⟩ := Prod.mk.inj (Option.some.inj h)
    exact ⟨_, fun _ => rfl, nofun⟩
  | release | write | writeDevice | writeSteering | writeClass | writeConsumer | swap | classEnable | classDisable
  | consumerEnable | consumerDisable | setTime | takeLog | clearCounts | freeze | restart =>
    obtain ⟨rfl, rfl⟩ := Prod.mk.inj (Option.some.inj h)
    exact ⟨_, fun _ => rfl, fun _ => ⟨_, rfl⟩⟩
  | _ => cases h

/-- A well-formed cell that does not end at its link is passed on (R168). -/
theorem exec_passOn (h : cellLink i = some l) (hw : wellFormed i = true) (hi : i ≠ .idle l) (hm : i ≠ .malformedCell l) :
    ∃ k, ∀ s, exec i s = .next (passOn l k s) := by
  cases i with
  | idle m =>
    obtain rfl := Option.some.inj h
    exact absurd rfl hi
  | malformedCell m =>
    obtain rfl := Option.some.inj h
    exact absurd rfl hm
  | event | ack =>
    obtain rfl := Option.some.inj h
    exact ⟨_, fun _ => congrArg Host.Outcome.next (if_pos hw)⟩
  | nackBusy | nackReject | load | badOp | claim | release | read | write | writeDevice | writeSteering | writeClass
  | writeConsumer | swap | classEnable | classDisable | consumerEnable | consumerDisable | setTime | takeLog | clearCounts
  | freeze | restart =>
    obtain rfl := Option.some.inj h
    exact ⟨_, fun _ => rfl⟩
  | _ => cases h

/-! ## Intake (R147, R148) -/

theorem request_intake (hup : (s.link (.consumer c)).state = .up) (hr : s.restart = none) :
    request c seq op s = intake c seq op (heardFrom c s) := passOn_up hup hr _

theorem intake_overrun (h : (s.port c).responseSlot ≠ none) :
    intake c seq op s = s.modPort c fun p => { p with overruns := satUp p.overruns } := by
  unfold intake
  split
  · rfl
  · rename_i hn
    exact absurd hn h

theorem intake_replay (hs : (s.port c).responseSlot = none) (hx : (s.port c).replay = some x) (hq : x.seq = seq) :
    intake c seq op s = answerReplay c x s := by
  unfold intake
  rw [hs, hx]
  exact if_pos hq

theorem renewLease_lease (c : ConsumerIdx) (s : State) :
    (renewLease c s).lease = if s.holds c then some ⟨c, s.device.leasePeriod.val * 10000⟩ else s.lease := by
  unfold renewLease
  split <;> rfl

theorem heardFrom_goodCell (c : ConsumerIdx) (s : State) : GoodCell (.consumer c) s (heardFrom c s) :=
  ⟨State.modLink_link_same s _ _, fun _ hm => State.modLink_link_ne s _ _ hm⟩

/-- A replay changes its port and renews a holder's lease (R148, R152). -/
theorem answerReplay_eq (c : ConsumerIdx) (x : Response) (s : State) : answerReplay c x s =
    { s.modPort c fun p => { p with responseSlot := some x, replays := satUp p.replays } with
      lease := if s.holds c then some ⟨c, s.device.leasePeriod.val * 10000⟩ else s.lease } := by
  have hp : (placeResponse c x s).modPort c (fun p => { p with replays := satUp p.replays }) =
      s.modPort c fun p => { p with responseSlot := some x, replays := satUp p.replays } := by
    unfold placeResponse State.modPort
    dsimp only
    rw [Tab.upd_upd_same]
  unfold answerReplay
  rw [hp, renewLease_frame, renewLease_lease]
  rfl

end

/-- Settles O14: whatever the cell, its link discards it. -/
theorem restartDiscardsCells : Obligations.RestartDiscardsCells := by
  intro i l s hl hw hi hm hup hr
  obtain ⟨k, hk⟩ := exec_passOn hl hw hi hm
  refine ⟨_, (hk s).trans (congrArg Host.Outcome.next (passOn_restart hup hr k)), rfl, fun m hne => ?_, ?_⟩
  · rw [State.modLink_link_ne _ _ _ hne, State.modLink_link_ne _ _ _ hne]
  · rw [State.modLink_link_same, State.modLink_link_same]
    rfl

/-- Settles O33: what intake does with any operation. -/
theorem overrunsAndReplays : Obligations.OverrunsAndReplays := by
  intro i c seq s hi hp
  obtain ⟨op, hop, -⟩ := exec_request hi
  have hexec : exec i s = .next (intake c seq op (heardFrom c s)) :=
    (hop s).trans (congrArg Host.Outcome.next (request_intake hp.up hp.noRestart))
  refine ⟨fun ho => ?_, fun x hs hx hq => ?_⟩
  · rw [intake_overrun (s := heardFrom c s) ho] at hexec
    exact ⟨_, hexec, rfl, heardFrom_goodCell c s, fun d hd => State.modPort_port_ne _ _ _ hd,
      State.modPort_port_same _ _ _⟩
  · rw [intake_replay (s := heardFrom c s) hs hx hq, answerReplay_eq] at hexec
    exact ⟨_, hexec, rfl, heardFrom_goodCell c s, fun d hd => Tab.nth_upd_ne _ _ hd, Tab.nth_upd_same _ _ _, rfl⟩

end Sys2Proof.Machine
end

section
/-! # Requests turned away, the lease, and READ: O34, O35, O36 and O37 -/

namespace Sys2Proof.Machine

/-! ## The catalogue of tables (R154, section 11.9) -/

/-- Each table's code, its records, and the pages of a record. -/
def catalogue : List (Nat × Table × Nat × Nat) :=
  [(1, .device, 1, 1), (2, .steering .a, 64, 1), (3, .steering .b, 64, 1), (4, .classConfig, 32, 1),
    (5, .consumerConfig, 6, 1), (6, .classCounts, 32, 2), (7, .consumerCounts, 6, 3), (8, .level, 4096, 1),
    (9, .store, 512, 3), (10, .status, 1, 4), (11, .linkCounts, 10, 1)]

/-- The number of records of a table. -/
def Table.records (x : Table) : Nat :=
  match x with
  | .device => 1
  | .steering _ => 64
  | .classConfig => 32
  | .consumerConfig => 6
  | .classCounts => 32
  | .consumerCounts => 6
  | .level => 4096
  | .store => 512
  | .status => 1
  | .linkCounts => 10

/-- The number of pages of a record of a table. -/
def Table.pages (x : Table) : Nat :=
  match x with
  | .device => 1
  | .steering _ => 1
  | .classConfig => 1
  | .consumerConfig => 1
  | .classCounts => 2
  | .consumerCounts => 3
  | .level => 1
  | .store => 3
  | .status => 4
  | .linkCounts => 1

theorem byte_of_toNat {b : Byte} {n : Nat} (h : b.toNat = n) : b = BitVec.ofNat 8 n := by
  rw [← h, BitVec.ofNat_toNat, BitVec.setWidth_eq]

theorem tableOf_catalogue {b : Byte} {x : Table} {records pages : Nat}
    (h : (b.toNat, x, records, pages) ∈ catalogue) :
    tableOf b = some x ∧ records = x.records ∧ pages = x.pages := by
  simp only [catalogue, List.mem_cons, List.not_mem_nil, Prod.mk.injEq, or_false] at h
  rcases h with ⟨hb, rfl, rfl, rfl⟩ | ⟨hb, rfl, rfl, rfl⟩ | ⟨hb, rfl, rfl, rfl⟩ | ⟨hb, rfl, rfl, rfl⟩ |
    ⟨hb, rfl, rfl, rfl⟩ | ⟨hb, rfl, rfl, rfl⟩ | ⟨hb, rfl, rfl, rfl⟩ | ⟨hb, rfl, rfl, rfl⟩ | ⟨hb, rfl, rfl, rfl⟩ |
    ⟨hb, rfl, rfl, rfl⟩ | ⟨hb, rfl, rfl, rfl⟩
  all_goals
    rw [byte_of_toNat hb]
    exact ⟨rfl, rfl, rfl⟩

theorem tableOf_none {b : Byte} (h : b.toNat = 0 ∨ 12 ≤ b.toNat) : tableOf b = none := by
  have hne (n : Nat) (hn : 1 ≤ n ∧ n ≤ 11) : b ≠ BitVec.ofNat 8 n := by
    rintro rfl
    rw [BitVec.toNat_ofNat] at h
    omega
  unfold tableOf
  rw [if_neg (hne 1 (by decide)), if_neg (hne 2 (by decide)), if_neg (hne 3 (by decide)), if_neg (hne 4 (by decide)),
    if_neg (hne 5 (by decide)), if_neg (hne 6 (by decide)), if_neg (hne 7 (by decide)), if_neg (hne 8 (by decide)),
    if_neg (hne 9 (by decide)), if_neg (hne 10 (by decide)), if_neg (hne 11 (by decide))]

/-! ## The page that READ finds (R154) -/

section

variable {page : Nat}

theorem onPageZero_eq_none {p : Page} : onPageZero page p = none ↔ 1 ≤ page := by
  unfold onPageZero
  split
  · simp [*]
  · simp
    omega

theorem storePage_eq_none {e : EventRecord} : storePage e page = none ↔ 3 ≤ page := by
  rcases page with _ | _ | _ | p <;> simp [storePage]

theorem levelPage_eq_none {e : LevelEntry} : levelPage e page = none ↔ 1 ≤ page := by
  rcases page with _ | p <;> simp [levelPage]

theorem classCountsPage_eq_none {x : ClassRecord} : classCountsPage x page = none ↔ 2 ≤ page := by
  rcases page with _ | _ | p <;> simp [classCountsPage]

theorem consumerCountsPage_eq_none {p : Port} : consumerCountsPage p page = none ↔ 3 ≤ page := by
  rcases page with _ | _ | _ | p <;> simp [consumerCountsPage]

theorem statusPage_eq_none {s : State} : statusPage s page = none ↔ 4 ≤ page := by
  rcases page with _ | _ | _ | _ | p <;> simp [statusPage]

theorem linkCountsPage_eq_none {x : Link} : linkCountsPage x page = none ↔ 1 ≤ page := by
  rcases page with _ | p <;> simp [linkCountsPage]

/-- A record of a table with `n` records of `m` pages. -/
theorem dite_eq_none {n m index : Nat} {f : index < n → Option Page} (h : ∀ hi, f hi = none ↔ m ≤ page) :
    (if hi : index < n then f hi else none) = none ↔ n ≤ index ∨ m ≤ page := by
  by_cases hi : index < n
  · rw [dif_pos hi, h, or_iff_right (Nat.not_le.mpr hi)]
  · rw [dif_neg hi]
    simp only [true_iff]
    omega

/-- The single record of a table. -/
theorem ite_eq_none {m index : Nat} {o : Option Page} (h : o = none ↔ m ≤ page) :
    (if index = 0 then o else none) = none ↔ 1 ≤ index ∨ m ≤ page := by
  split
  · rw [h]
    omega
  · simp only [true_iff]
    omega

/-- READ finds no page exactly outside the table (section 11.9). -/
theorem readPage_eq_none {s : State} {x : Table} {index : Nat} :
    readPage s x index page = none ↔ x.records ≤ index ∨ x.pages ≤ page := by
  cases x with
  | device => exact ite_eq_none onPageZero_eq_none
  | steering bank => exact dite_eq_none fun _ => onPageZero_eq_none
  | classConfig => exact dite_eq_none fun _ => onPageZero_eq_none
  | consumerConfig => exact dite_eq_none fun _ => onPageZero_eq_none
  | classCounts => exact dite_eq_none fun _ => classCountsPage_eq_none
  | consumerCounts => exact dite_eq_none fun _ => consumerCountsPage_eq_none
  | level => exact dite_eq_none fun _ => levelPage_eq_none
  | store => exact dite_eq_none fun _ => storePage_eq_none
  | status => exact ite_eq_none statusPage_eq_none
  | linkCounts => exact dite_eq_none fun _ => linkCountsPage_eq_none

/-- Hearing the REQUEST changes no page: it ends a bad-cell run, which no page carries. -/
theorem readPage_heardFrom (c : ConsumerIdx) (s : State) (x : Table) (index : Nat) :
    readPage (heardFrom c s) x index page = readPage s x index page := by
  cases x with
  | status =>
    have h : statusPage (heardFrom c s) page = statusPage s page := by
      unfold statusPage
      simp only [heardFrom_link_state]
      rfl
    unfold readPage
    rw [h]
  | linkCounts =>
    have h (i : Fin 10) : linkCountsPage (Tab.nth (heardFrom c s).links i) page = linkCountsPage (Tab.nth s.links i) page := by
      have hn : Tab.nth (heardFrom c s).links i = _ := Tab.nth_upd s.links (linkIndex (.consumer c)) i Link.heard
      rw [hn]
      split <;> rfl
    unfold readPage
    simp only [h]
  | _ => rfl

end

/-! ## The operations -/

section

variable {table : Byte} {index : Half} {page : Byte} {image : Page} {u : State} {x : Table} {c : ConsumerIdx}

theorem opRead_badTable (h : tableOf table = none) : opRead table index page u = deny .badTable u := by
  unfold opRead
  rw [h]

theorem opRead_badIndex (h : tableOf table = some x) (hr : readPage u x index.toNat page.toNat = none) :
    opRead table index page u = deny .badIndex u := by
  unfold opRead
  rw [h]
  dsimp only
  rw [hr]

theorem opRead_page {d : Page} (h : tableOf table = some x) (hr : readPage u x index.toNat page.toNat = some d) :
    opRead table index page u = okay d u := by
  unfold opRead
  rw [h]
  dsimp only
  rw [hr]

theorem opWrite_badTable (h : tableOf table = none) : opWrite table index page image u = deny .badTable u := by
  unfold opWrite
  rw [h]

/-- The tables of codes 6 to 11 cannot be written (R155). -/
theorem opWrite_readOnly (h : 6 ≤ table.toNat ∧ table.toNat ≤ 11) :
    opWrite table index page image u = deny .readOnly u := by
  obtain ⟨hlo, hhi⟩ := h
  have hcode : table.toNat = 6 ∨ table.toNat = 7 ∨ table.toNat = 8 ∨ table.toNat = 9 ∨ table.toNat = 10 ∨
      table.toNat = 11 := by omega
  rcases hcode with hb | hb | hb | hb | hb | hb
  all_goals
    rw [byte_of_toNat hb]
    rfl

/-- The answer to a CLAIM that takes or renews the lease (R150, R173). -/
def claimPage (c : ConsumerIdx) (s : State) : Page :=
  { Page.zero with o0 := BitVec.ofNat 8 c.val, o1 := BitVec.ofNat 8 s.device.leasePeriod.val }

theorem opClaim_free (h : u.lease = none) :
    opClaim c u = okay (claimPage c u) (placeNotice { u with lease := some ⟨c, leaseSpan u⟩ }) := by
  unfold opClaim
  rw [h]
  rfl

theorem opClaim_own {y : Lease} (h : u.lease = some y) (hy : y.holder = c) : opClaim c u = okay (claimPage c u) u := by
  unfold opClaim
  rw [h]
  exact if_pos hy

theorem opClaim_held {y : Lease} (h : u.lease = some y) (hy : y.holder ≠ c) :
    opClaim c u = ⟨u, some (.held, data1 (octet y.holder.val))⟩ := by
  unfold opClaim
  rw [h]
  exact if_neg hy

end

/-- Settles O34. -/
theorem requestsTurnedAway : Obligations.RequestsTurnedAway := by
  refine ⟨fun i c seq s hi hn hc hh => ?_, fun c seq s hc => ⟨fun op => ?_, fun table index page image hh =>
    ⟨fun ht => ?_, fun ht => ?_⟩⟩⟩
  · obtain ⟨op, hop, hinner⟩ := exec_request hi
    obtain ⟨inner, rfl⟩ := hinner hn
    rw [hop, request_denied hc (holderOnly_other (s := heardFrom c s) hh inner)]
  · exact congrArg Host.Outcome.next (request_denied hc (op := deny .badOp) rfl)
  · exact congrArg Host.Outcome.next (request_holder_denied ⟨hc, hh⟩ (opWrite_readOnly ht))
  · exact congrArg Host.Outcome.next (request_holder_denied ⟨hc, hh⟩ (opWrite_badTable (tableOf_none ht)))

/-- Settles O36. -/
theorem leaseEnds : Obligations.LeaseEnds := by
  refine ⟨fun c seq s hc => ?_, fun s => ⟨fun x hl hx => ?_, fun hrun => ?_⟩⟩
  · exact congrArg Host.Outcome.next (request_holder hc (u := { s with lease := none }) (op := opRelease) rfl)
  · show execLeaseTimerExpiry s = _
    unfold execLeaseTimerExpiry
    rw [hl]
    exact congrArg Host.Outcome.next (if_pos hx)
  · show execLeaseTimerExpiry s = _
    unfold execLeaseTimerExpiry
    cases hl : s.lease with
    | none => rfl
    | some x => exact congrArg Host.Outcome.next (if_neg (hrun x hl))

/-- Settles O37: the table of the code, then the page of the table. -/
theorem readAnswersPage : Obligations.ReadAnswersPage := by
  refine fun c seq table index page s hc => ⟨fun ht => ?_, fun x records pages hrow => ?_⟩
  · exact congrArg Host.Outcome.next (request_denied hc (opRead_badTable (tableOf_none ht)))
  · obtain ⟨ht, rfl, rfl⟩ := tableOf_catalogue hrow
    have hheard := readPage_heardFrom (page := page.toNat) c s x index.toNat
    refine ⟨fun hout => ?_, fun hi hp => ?_⟩
    · have hnone := hheard.trans (readPage_eq_none.mpr hout)
      exact congrArg Host.Outcome.next (request_denied hc (opRead_badIndex ht hnone))
    · have hsome : readPage s x index.toNat page.toNat ≠ none := fun h => by
        have := readPage_eq_none.mp h
        omega
      obtain ⟨d, hd⟩ := Option.ne_none_iff_exists'.mp hsome
      exact ⟨d, hd, congrArg Host.Outcome.next (request_replied hc (opRead_page ht (hheard.trans hd)))⟩

/-! ## CLAIM of a FREE lease -/

section

variable {s : State} {c : ConsumerIdx}

/-- The lease is taken, and the Notice Unit has tested (R150, R143). -/
def claimed (c : ConsumerIdx) (s : State) : State := placeNotice { s with lease := some ⟨c, leaseSpan s⟩ }

theorem claimed_frame (c : ConsumerIdx) (s : State) : claimed c s =
    { s with lease := some ⟨c, leaseSpan s⟩, ports := (claimed c s).ports, notices := (claimed c s).notices } :=
  placeNotice_frame _

theorem claimed_holds (c d : ConsumerIdx) (s : State) : (claimed c s).holds d = (c == d) := by
  rw [claimed_frame]
  rfl

theorem claimed_notices (c : ConsumerIdx) (s : State) :
    NoticeTest s.notices { s with lease := some ⟨c, 0⟩ } (claimed c s) :=
  placeNotice_test { s with lease := some ⟨c, leaseSpan s⟩ } _ rfl fun _ => rfl

theorem claimed_port_other {d : ConsumerIdx} (hd : d ≠ c) : (claimed c s).port d = s.port d := by
  have hslot := (claimed_notices c s).slot_of_not_holder (n := d) (beq_eq_false_iff_ne.mpr (Ne.symm hd))
  have hport : (claimed c s).port d = { s.port d with noticeSlot := ((claimed c s).port d).noticeSlot } :=
    placeNotice_port _ d
  rw [hport, hslot]
  rfl

end

/-- Settles O35. -/
theorem claimOutcomes : Obligations.ClaimOutcomes := by
  refine fun c seq s hc => ⟨fun hfree => ?_, fun x hl hx => ?_, fun x hl hx => ?_⟩
  · have hop : opClaim c (heardFrom c s) = ⟨heardFrom c (claimed c s), some (.ok, claimPage c s)⟩ :=
      (opClaim_free (u := heardFrom c s) hfree).trans
        (congrArg (okay (claimPage c s)) (placeNotice_heardFrom c { s with lease := some ⟨c, leaseSpan s⟩ }))
    have hexec : exec (.claim c seq) s = .next (replied c seq .ok (claimPage c s) (claimed c s)) :=
      congrArg Host.Outcome.next (request_replied hc hop)
    have hholds : (claimed c s).holds c = true := (claimed_holds c c s).trans (beq_self_eq_true c)
    have hrep := replied_of_holds (seq := seq) (st := .ok) (d := claimPage c s) hholds
    have hframe := claimed_frame c s
    have hT := claimed_notices c s
    have hother (d : ConsumerIdx) (hd : d ≠ c) := claimed_port_other (s := s) hd
    have hown : (claimed c s).port c = { s.port c with noticeSlot := ((claimed c s).port c).noticeSlot } :=
      placeNotice_port _ c
    generalize claimed c s = v at *
    have hlinks : ∀ l, v.link l = s.link l := fun l => by rw [hframe]; rfl
    refine ⟨_, hexec, ?_, ⟨?_, fun m hm => ?_⟩, ?_, fun d hd => ?_, ?_, ?_, ?_⟩
    · generalize replied c seq .ok (claimPage c s) v = t at hrep ⊢
      rw [hrep, hframe]
    · rw [replied_link, if_pos rfl, hlinks]
    · rw [replied_link, if_neg hm, hlinks]
    · rw [hrep, hframe]
    · rw [replied_port, if_neg hd, hother d hd]
    · rw [replied_port, if_pos rfl]
      generalize v.port c = q at hown ⊢
      rw [hown]
    · rw [replied_port, if_pos rfl]
      rfl
    · unfold NoticeTest at hT ⊢
      simp only [replied_noticeSlot]
      exact hT
  · exact congrArg Host.Outcome.next (request_replied hc (opClaim_own (u := heardFrom c s) hl hx))
  · exact congrArg Host.Outcome.next (request_replied hc (opClaim_held (u := heardFrom c s) hl hx))

end Sys2Proof.Machine
end

section
/-! # WRITE of DEVICE and of CONSUMER: O39 -/

namespace Sys2Proof.Machine

section

variable {index : Half} {page : Byte} {image : Page} {u : State}

/-! ## The images (section 11.9) -/

/-- A DEVICE record is read from an image whose fields lie in the ranges of R156. -/
theorem deviceOf_eq_some {d : Device} (hd : DeviceLawful d) (hp : d.leasePeriod.val = image.o0.toNat)
    (hl : d.low.val = image.o1.toNat) (hh : d.high.val = (be16 image.o2 image.o3).toNat) : deviceOf image = some d := by
  obtain ⟨h1, h2, h3⟩ := hd
  unfold deviceOf
  dsimp only
  rw [dif_pos (by omega)]
  simp only [← hp, ← hl, ← hh]

theorem deviceOf_eq_none (h : image.o0.toNat = 0 ∨ image.o1.toNat < 8 ∨
    (be16 image.o2 image.o3).toNat ≤ image.o1.toNat ∨ 511 < (be16 image.o2 image.o3).toNat) : deviceOf image = none := by
  unfold deviceOf
  exact dif_neg (by omega)

theorem octet_of_toNat {n : Nat} {b : Byte} (h : n = b.toNat) : octet n = b := (byte_of_toNat h.symm).symm

/-- The image of the record that is read is the page, its unused octets at 0. -/
theorem devicePage_of_carried {d : Device} (hp : d.leasePeriod.val = image.o0.toNat) (hl : d.low.val = image.o1.toNat)
    (hh : d.high.val = (be16 image.o2 image.o3).toNat) :
    devicePage d = { image with o4 := 0, o5 := 0, o6 := 0, o7 := 0 } := by
  have hhalf : half d.high.val = be16 image.o2 image.o3 := by
    unfold half
    rw [hh, BitVec.ofNat_toNat, BitVec.setWidth_eq]
  unfold devicePage
  rw [octet_of_toNat hp, octet_of_toNat hl, hhalf, hi_be16, lo_be16]
  rfl

theorem consumerOf_eq_some {w : Fin 9} {n : Fin 16} (hw : w.val = image.o0.toNat) (hw1 : 1 ≤ w.val)
    (hn : n.val = image.o1.toNat) (hn1 : 1 ≤ n.val) : consumerOf image = some (w, n) := by
  unfold consumerOf
  rw [dif_pos (by omega)]
  simp only [← hw, ← hn]

theorem consumerOf_eq_none (h : image.o0.toNat = 0 ∨ 8 < image.o0.toNat ∨ image.o1.toNat = 0 ∨ 15 < image.o1.toNat) :
    consumerOf image = none := by
  unfold consumerOf
  exact dif_neg (by omega)

/-! ## The outcomes of a WRITE of DEVICE, in the order of its tests (R156) -/

theorem opWriteDevice_badIndex (h : index ≠ 0 ∨ page ≠ 0) : opWriteDevice index page image u = deny .badIndex u := by
  refine if_neg ?_
  rintro ⟨hi, hp⟩
  exact h.elim (absurd hi) (absurd hp)

theorem opWriteDevice_frozen (hf : u.frozen = true) : opWriteDevice 0 0 image u = deny .frozen u := by
  unfold opWriteDevice
  rw [if_pos ⟨rfl, rfl⟩, if_pos hf]

theorem opWriteDevice_badValue (hf : u.frozen = false) (hv : deviceOf image = none) :
    opWriteDevice 0 0 image u = deny .badValue u := by
  unfold opWriteDevice
  rw [if_pos ⟨rfl, rfl⟩, hf, if_neg Bool.false_ne_true, hv]

theorem opWriteDevice_written {d : Device} (hf : u.frozen = false) (hv : deviceOf image = some d) :
    opWriteDevice 0 0 image u = okay (devicePage d) (placeNotice (applyHold { u with device := d })) := by
  unfold opWriteDevice
  rw [if_pos ⟨rfl, rfl⟩, hf, if_neg Bool.false_ne_true, hv]

/-- The hold rule neither reads nor changes the sender's link. -/
theorem applyHold_heardFrom (c : ConsumerIdx) (u : State) : applyHold (heardFrom c u) = heardFrom c (applyHold u) := by
  have h : applyHold (heardFrom c u) = (applyHold u).aside (heardFrom c u).links u.handed u.late u.turns u.freeDraws :=
    applyHold_aside _ _ _ _ _ u
  have hf := applyHold_frame u
  rw [h]
  generalize applyHold u = v at hf ⊢
  rw [hf]
  rfl

/-! ## The outcomes of a WRITE of CONSUMER, in the order of its tests (R100) -/

theorem opWriteConsumer_badIndex (h : 6 ≤ index.toNat ∨ page ≠ 0) :
    opWriteConsumer index page image u = deny .badIndex u := by
  refine dif_neg ?_
  rintro ⟨hi, hp⟩
  exact h.elim (fun hn => absurd hi (by omega)) (absurd hp)

section

variable (hi : index.toNat < 6)

include hi

theorem opWriteConsumer_frozen (hf : u.frozen = true) : opWriteConsumer index 0 image u = deny .frozen u := by
  unfold opWriteConsumer
  rw [dif_pos ⟨hi, rfl⟩, if_pos hf]

theorem opWriteConsumer_inUse (hf : u.frozen = false) (hs : (u.port ⟨index.toNat, hi⟩).state ≠ .off) :
    opWriteConsumer index 0 image u = deny .inUse u := by
  unfold opWriteConsumer
  rw [dif_pos ⟨hi, rfl⟩, hf, if_neg Bool.false_ne_true, if_pos hs]

theorem opWriteConsumer_badValue (hf : u.frozen = false) (hs : (u.port ⟨index.toNat, hi⟩).state = .off)
    (hv : consumerOf image = none) : opWriteConsumer index 0 image u = deny .badValue u := by
  unfold opWriteConsumer
  rw [dif_pos ⟨hi, rfl⟩, hf, if_neg Bool.false_ne_true, if_neg (not_not.mpr hs), hv]

theorem opWriteConsumer_written {w : Fin 9} {t : Fin 16} (hf : u.frozen = false)
    (hs : (u.port ⟨index.toNat, hi⟩).state = .off) (hv : consumerOf image = some (w, t)) :
    opWriteConsumer index 0 image u = okay { Page.zero with o0 := octet w.val, o1 := octet t.val }
      (u.modPort ⟨index.toNat, hi⟩ fun p => { p with window := w, threshold := t }) := by
  unfold opWriteConsumer
  rw [dif_pos ⟨hi, rfl⟩, hf, if_neg Bool.false_ne_true, if_neg (not_not.mpr hs), hv]

end

end

/-- Settles O39: each outcome of the two operations, answered to the holder. -/
theorem writeDeviceAndConsumer : Obligations.WriteDeviceAndConsumer := by
  intro c seq index page image s hc
  refine ⟨fun h => ?_, ?_, ?_, fun h => ?_, fun n hn hp => ?_⟩
  · exact congrArg Host.Outcome.next (request_holder_denied hc (opWriteDevice_badIndex h))
  · rintro rfl rfl hf
    exact congrArg Host.Outcome.next (request_holder_denied hc (opWriteDevice_frozen hf))
  · rintro rfl rfl hf
    refine ⟨fun hv => ?_, fun d hp hp1 hl hl8 hh hlt => ?_⟩
    · exact congrArg Host.Outcome.next (request_holder_denied hc (opWriteDevice_badValue hf (deviceOf_eq_none hv)))
    · have hop := opWriteDevice_written (u := heardFrom c s) hf (deviceOf_eq_some ⟨hp1, hl8, hlt⟩ hp hl hh)
      have hheard : placeNotice (applyHold { heardFrom c s with device := d }) =
          heardFrom c (placeNotice (applyHold { s with device := d })) := by
        rw [← placeNotice_heardFrom, ← applyHold_heardFrom]
        rfl
      rw [hheard, devicePage_of_carried hp hl hh] at hop
      exact congrArg Host.Outcome.next (request_holder hc hop)
  · exact congrArg Host.Outcome.next (request_holder_denied hc (opWriteConsumer_badIndex h))
  · have hi : index.toNat < 6 := hn ▸ n.isLt
    obtain rfl : n = ⟨index.toNat, hi⟩ := Fin.ext hn.symm
    subst hp
    refine ⟨fun hf => ?_, fun hf hs => ?_, fun hf hs => ⟨fun hv => ?_, fun w t hw hw1 ht ht1 => ?_⟩⟩
    · exact congrArg Host.Outcome.next (request_holder_denied hc (opWriteConsumer_frozen hi hf))
    · exact congrArg Host.Outcome.next (request_holder_denied hc (opWriteConsumer_inUse hi hf hs))
    · exact congrArg Host.Outcome.next
        (request_holder_denied hc (opWriteConsumer_badValue hi hf hs (consumerOf_eq_none hv)))
    · have hop := opWriteConsumer_written (u := heardFrom c s) hi hf hs (consumerOf_eq_some hw hw1 ht ht1)
      rw [octet_of_toNat hw, octet_of_toNat ht] at hop
      exact congrArg Host.Outcome.next (request_holder hc hop)

end Sys2Proof.Machine
end

section
/-! # What ports, links, the lease and the clock rest on, and the operations that leave it as it is

Apart from the passages of its link a consumer's state only moves between states that say the same of the link, or to OFF; apart
from CLAIM no consumer comes to hold the lease; the frozen flag is never cleared, and the Timebase stands. -/

namespace Sys2Proof.Machine

/-- A consumer's state is in step with the state of its link (R86, R89, R93). -/
def ConsumerState.Follows (x : ConsumerState) (l : LinkState) : Prop :=
  (x = .detached → l ≠ .up) ∧ (x = .waiting ∨ x = .active ∨ x = .suspect → l = .up)

/-- From `s` to `t` no consumer link has gone UP or left UP, no consumer has come to hold the lease, no consumer's state says
more of its link, the frozen flag is not cleared, and the Timebase stands. -/
structure SameFooting (s t : State) : Prop where
  timebase : t.timebase = s.timebase
  frozen : s.frozen = true → t.frozen = true
  holder : ∀ c, t.holds c = true → s.holds c = true
  link : ∀ c, (t.link (.consumer c)).state = .up ↔ (s.link (.consumer c)).state = .up
  port : ∀ c l, (s.port c).state.Follows l → (t.port c).state.Follows l

theorem follows_congr {x : ConsumerState} {l m : LinkState} (h : m = .up ↔ l = .up) (hx : x.Follows l) : x.Follows m :=
  ⟨fun hd hm => hx.1 hd (h.mp hm), fun hs => h.mpr (hx.2 hs)⟩

theorem follows_off (l : LinkState) : ConsumerState.off.Follows l := ⟨nofun, nofun⟩

theorem follows_inService (l : LinkState) : (inService l).Follows l := by
  cases l with
  | up => exact ⟨nofun, fun _ => rfl⟩
  | aligning => exact ⟨fun _ => nofun, nofun⟩
  | down => exact ⟨fun _ => nofun, nofun⟩

theorem portsFollowLinks_iff {s : State} :
    PortsFollowLinks s ↔ ∀ c, (s.port c).state.Follows (s.link (.consumer c)).state := Iff.rfl

theorem holderLinkUp_iff {s : State} :
    HolderLinkUp s ↔ ∀ c, s.holds c = true → (s.link (.consumer c)).state = .up := by
  unfold HolderLinkUp State.holds
  cases s.lease with
  | none => simp
  | some x => simp

namespace SameFooting

variable {s u t : State}

theorem refl (s : State) : SameFooting s s := ⟨rfl, id, fun _ => id, fun _ => .rfl, fun _ _ => id⟩

theorem trans (h : SameFooting s u) (g : SameFooting u t) : SameFooting s t where
  timebase := g.timebase.trans h.timebase
  frozen := g.frozen ∘ h.frozen
  holder c := h.holder c ∘ g.holder c
  link c := (g.link c).trans (h.link c)
  port c l := g.port c l ∘ h.port c l

/-- Steps taken one after another. -/
theorem foldl {α : Type} {f : State → α → State} (hf : ∀ u a, SameFooting u (f u a)) (as : List α) (s : State) :
    SameFooting s (as.foldl f s) :=
  List.foldlRecOn (motive := SameFooting s) as f (refl s) fun u hu a _ => hu.trans (hf u a)

/-- None of the fields that it speaks of has changed. -/
theorem of_fields (hx : t.timebase = s.timebase) (hf : t.frozen = s.frozen) (hl : t.lease = s.lease)
    (hk : t.links = s.links) (hp : t.ports = s.ports) : SameFooting s t where
  timebase := hx
  frozen := hf ▸ id
  holder c := holds_congr hl c ▸ id
  link c := by
    unfold State.link
    rw [hk]
  port c l := by
    unfold State.port
    rw [hp]
    exact id

theorem portsFollowLinks (h : SameFooting s t) (hs : PortsFollowLinks s) : PortsFollowLinks t :=
  portsFollowLinks_iff.mpr fun c => follows_congr (h.link c) (h.port c _ (portsFollowLinks_iff.mp hs c))

theorem holderLinkUp (h : SameFooting s t) (hs : HolderLinkUp s) : HolderLinkUp t :=
  holderLinkUp_iff.mpr fun c hc => (h.link c).mpr (holderLinkUp_iff.mp hs c (h.holder c hc))

end SameFooting

/-- Steering touches neither links, lease nor clock, and of the ports the notice slots alone. -/
theorem Steered.footing {s t : State} (h : Steered s t) : SameFooting s t where
  timebase := by rw [h.frame]
  frozen := by
    rw [h.frame]
    exact id
  holder c := by
    rw [h.frame]
    exact id
  link c := by
    rw [h.frame]
    rfl
  port c l := by
    rw [h.ports c]
    exact id

section

variable (s : State)

/-! ## Links and ports -/

theorem footing_modLink {l : LinkId} {f : Link → Link}
    (hf : ∀ c, l = .consumer c → ((f (s.link l)).state = .up ↔ (s.link l).state = .up)) :
    SameFooting s (s.modLink l f) :=
  { SameFooting.refl s with
    link := fun c => by
      rw [State.modLink_link]
      split
      · rename_i e
        subst e
        exact hf c rfl
      · exact .rfl }

/-- No consumer stands behind a source link. -/
theorem footing_modSource (n : Fin 4) (f : Link → Link) : SameFooting s (s.modLink (.source n) f) :=
  footing_modLink s nofun

/-- A link changes in anything but its state. -/
theorem footing_modLink_aside (l : LinkId) {f : Link → Link} (hf : ∀ x, (f x).state = x.state) :
    SameFooting s (s.modLink l f) :=
  footing_modLink s fun _ _ => by rw [hf]

theorem footing_modPort {c : ConsumerIdx} {f : Port → Port}
    (hf : ∀ l, (s.port c).state.Follows l → (f (s.port c)).state.Follows l) : SameFooting s (s.modPort c f) :=
  { SameFooting.refl s with
    port := fun d l => by
      rw [State.modPort_port]
      split
      · rename_i e
        subst e
        exact hf l
      · exact id }

/-- A port changes in anything but its state. -/
theorem footing_modPort_aside (c : ConsumerIdx) {f : Port → Port} (hf : ∀ p, (f p).state = p.state) :
    SameFooting s (s.modPort c f) :=
  footing_modPort s fun _ => by
    rw [hf]
    exact id

theorem footing_putOnWire (l : LinkId) (x : OutCell) : SameFooting s (putOnWire l x s) :=
  footing_modLink_aside s l fun _ => rfl

/-- A receiver that was not UP enters ALIGNING. -/
theorem footing_beginAligning {l : LinkId} (h : (s.link l).state ≠ .up) : SameFooting s (beginAligning l s) := by
  have ha : SameFooting s (s.modLink l fun x =>
      { x with state := .aligning, alignCount := 0, badRun := 0, boundary := Config.searchStart s.freeDraws }) :=
    footing_modLink s fun _ _ => ⟨nofun, fun hu => absurd hu h⟩
  exact ha.trans (.of_fields rfl rfl rfl rfl rfl)

/-! ## The shared rules -/

theorem footing_modClass (k : ClassIdx) (f : ClassRecord → ClassRecord) : SameFooting s (s.modClass k f) :=
  .of_fields rfl rfl rfl rfl rfl

theorem footing_modRec (r : RecIdx) (f : EventRecord → EventRecord) : SameFooting s (s.modRec r f) :=
  .of_fields rfl rfl rfl rfl rfl

/-- The Notice Unit's test at the end of a transition. -/
theorem SameFooting.placeNotice {s u : State} (h : SameFooting s u) : SameFooting s (placeNotice u) :=
  h.trans (steered_placeNotice u).footing

theorem footing_applyHold : SameFooting s (applyHold s) := (steered_applyHold s).footing

theorem footing_drainCheck (k : ClassIdx) : SameFooting s (drainCheck k s) := by
  rw [drainCheck_frame]
  exact .of_fields rfl rfl rfl rfl rfl

theorem footing_renewLease (c : ConsumerIdx) : SameFooting s (renewLease c s) := by
  have hh (d : ConsumerIdx) := renewLease_holds c d s
  rw [renewLease_frame] at hh ⊢
  exact { SameFooting.refl s with holder := fun d hd => (hh d).symm.trans hd }

theorem footing_freeLease : SameFooting s { s with lease := none } := { SameFooting.refl s with holder := nofun }

theorem footing_freeLeaseOf (c : ConsumerIdx) : SameFooting s (freeLeaseOf c s) := by
  unfold freeLeaseOf
  split
  · exact footing_freeLease s
  · exact .refl s

/-- ACTIVE and SUSPECT say the same of the link. -/
theorem footing_suspectCheck (c : ConsumerIdx) : SameFooting s (suspectCheck c s) := by
  unfold suspectCheck
  split
  · rename_i h
    have hs : SameFooting s (s.modPort c fun p => { p with state := .suspect }) :=
      footing_modPort s fun _ hx => ⟨nofun, fun _ => hx.2 (Or.inr (Or.inl h.1))⟩
    exact hs.trans (.of_fields rfl rfl rfl rfl rfl)
  · exact .refl s

/-- WAITING, SUSPECT and ACTIVE say the same of the link. -/
theorem footing_takeLoad (c : ConsumerIdx) (level : Fin 16) : SameFooting s (s.modPort c fun p => p.takeLoad level) := by
  refine footing_modPort s fun _ hx => ?_
  unfold Port.takeLoad
  split
  · rename_i h
    exact ⟨nofun, fun _ => hx.2 (Or.inl h)⟩
  · rename_i h
    exact ⟨nofun, fun _ => hx.2 (Or.inr (Or.inr h))⟩
  all_goals exact hx

/-! ## Claims -/

theorem footing_dropDispatch (c : ConsumerIdx) (r : RecIdx) : SameFooting s (dropDispatch c r s) := by
  refine SameFooting.trans ?_ (footing_modLink_aside _ _ fun _ => rfl)
  exact footing_modPort_aside s c fun _ => rfl

theorem footing_freeRecord (r : RecIdx) : SameFooting s (freeRecord r s) := by
  have hrules (k : ClassIdx) (u : State) : SameFooting u (applyHold (drainCheck k u)) :=
    (footing_drainCheck u k).trans (footing_applyHold _)
  rcases place_cases s r with h | ⟨k, h⟩ | ⟨k, c, h⟩
  · rw [freeRecord_eq_free h]
    exact .refl s
  · have hp : SameFooting s (freePending k r s) := .of_fields rfl rfl rfl rfl rfl
    rw [freeRecord_eq_pending h]
    exact hp.trans (hrules k _)
  · have hd : SameFooting (dropDispatch c r s) (freeDispatched k c r s) := .of_fields rfl rfl rfl rfl rfl
    rw [freeRecord_eq_dispatched h]
    exact ((footing_dropDispatch s c r).trans hd).trans (hrules k _)

theorem footing_abandon (r : RecIdx) (why : Reason) : SameFooting s (abandon r why s) := by
  unfold abandon
  split
  · exact .refl s
  · exact (steered_recordAbandon r _ why s).footing.trans (footing_freeRecord _ r)

theorem footing_returnRecord (r : RecIdx) : SameFooting s (returnRecord r s) := by
  have hd (c : ConsumerIdx) (f : EventRecord → EventRecord) (g : List RecIdx → List RecIdx)
      (k : ClassIdx) (h : ClassRecord → ClassRecord) :
      SameFooting s ((((dropDispatch c r s).modRec r f).modQueue k g).modClass k h) :=
    (footing_dropDispatch s c r).trans (.of_fields rfl rfl rfl rfl rfl)
  unfold returnRecord
  split
  · exact .refl s
  · exact .refl s
  · exact hd _ _ _ _ _
  · exact hd _ _ _ _ _

/-- A failure, its charge and its consumer's counters made first, is an abandonment or a return. -/
theorem footing_failure (c : ConsumerIdx) (k : ClassIdx) (r : RecIdx) {f : Port → Port}
    (hf : ∀ p, (f p).state = p.state) : SameFooting s (failureDecision k r (chargeFailure c r (s.modPort c f))) := by
  have hc : SameFooting s (chargeFailure c r (s.modPort c f)) :=
    (footing_modPort_aside s c hf).trans (footing_modRec _ r _)
  refine hc.trans ?_
  rcases failureDecision_cases k r (chargeFailure c r (s.modPort c f)) with ⟨-, e⟩ | ⟨-, -, e⟩ | ⟨-, -, e⟩ <;> rw [e]
  · exact footing_abandon _ r _
  · exact footing_abandon _ r _
  · exact footing_returnRecord _ r

theorem footing_returnAll (c : ConsumerIdx) : SameFooting s (returnAll c s) := by
  have ha : SameFooting s ((purgedOf s c).foldl (fun t r => abandon r .purged (markTried c r t)) s) :=
    .foldl (fun u r => (footing_modRec u r _).trans (footing_abandon _ r .purged)) _ s
  have hb : SameFooting s (claimedBack c s) :=
    List.foldrRecOn (motive := SameFooting s) _ _ ha fun u hu r _ => hu.trans (footing_returnRecord u r)
  rw [returnAll_eq]
  exact hb.trans (footing_modPort_aside _ c fun _ => rfl)

/-- What a port out of service keeps: no record, and its slots empty. -/
theorem footing_vacate (c : ConsumerIdx) :
    SameFooting s ((returnAll c s).modPort c fun p => { p with responseSlot := none, noticeSlot := none }) :=
  (footing_returnAll s c).trans (footing_modPort_aside _ c fun _ => rfl)

theorem footing_closeClass (k : ClassIdx) (purge : Bool) : SameFooting s (closeClass k purge s) := by
  unfold closeClass
  dsimp only
  refine SameFooting.trans ?_ (footing_drainCheck _ k)
  split
  · exact (footing_modClass s k _).trans (.foldl (fun u r => footing_abandon u r .purged) _ _)
  · exact footing_modClass s k _

/-! ## Cells that wait, consumer cells and the transmitters -/

theorem footing_catchUp (n : Fin 4) : SameFooting s (catchUp n s) := by
  have hh : SameFooting s { s with handed := Tab.put s.handed n [] } := .of_fields rfl rfl rfl rfl rfl
  rw [catchUp_eq]
  exact hh.trans (steered_takeArrivals _ _).footing

theorem footing_catchUpAll : SameFooting s (catchUpAll s) := by
  have hh : SameFooting s { s with handed := Tab.all 4 [], turns := s.turns.tail } := .of_fields rfl rfl rfl rfl rfl
  exact hh.trans (steered_takeArrivals _ _).footing

theorem footing_settle (l : LinkId) : SameFooting s (settle l s) := by
  cases l with
  | source n => exact footing_catchUp s n
  | consumer c => exact .refl s

theorem footing_passEvent (x : Arrival) : SameFooting s (passEvent x s) := by
  unfold passEvent
  dsimp only
  split
  · exact .of_fields rfl rfl rfl rfl rfl
  · have hl : SameFooting s { s with late := s.late.tail } := .of_fields rfl rfl rfl rfl rfl
    exact (hl.trans (footing_catchUp _ _)).trans (steered_takeArrival _ x).footing

theorem footing_takeAckTag (c : ConsumerIdx) (tag : Tag) : SameFooting s (takeAckTag c s tag) := by
  unfold takeAckTag
  split
  · rename_i k _
    refine SameFooting.placeNotice (SameFooting.trans ?_ (footing_freeRecord _ _))
    exact (footing_modClass s k _).trans (footing_modPort_aside _ c fun _ => rfl)
  · exact footing_modPort_aside s c fun _ => rfl

theorem footing_grantRecord (k : ClassIdx) (c : ConsumerIdx) (r : RecIdx) (rest : List RecIdx) :
    SameFooting s (grantRecord k c r rest s) := by
  have hport (d : ConsumerIdx) : ((grantRecord k c r rest s).port d).state = (s.port d).state := by
    rw [grantRecord_port]
    split <;> rfl
  rw [grantRecord_eq] at hport ⊢
  exact { SameFooting.refl s with port := fun d l => (hport d).symm ▸ id }

theorem footing_consumerSlot (c : ConsumerIdx) : SameFooting s (consumerSlot c s) := by
  unfold consumerSlot
  split
  · refine SameFooting.trans ?_ (footing_putOnWire _ _ _)
    exact footing_modPort_aside s c fun _ => rfl
  · split
    · refine SameFooting.placeNotice (SameFooting.trans ?_ (footing_putOnWire _ _ _))
      exact footing_modPort_aside s c fun _ => rfl
    · split <;> exact footing_putOnWire s _ _

theorem footing_deliverSent (c : ConsumerIdx) (d : Deliver) : SameFooting s (deliverSent c d s) := by
  unfold deliverSent
  split
  · split
    · exact (footing_modRec s _ _).trans (footing_modPort_aside _ c fun _ => rfl)
    · exact .refl s
  all_goals exact .refl s

/-- The end of a restart answers the requester and applies the hold rule (R162). -/
theorem footing_finishRestart (job : RestartJob) : SameFooting s (finishRestart job s) := by
  have hc : SameFooting s { s with ports := Tab.each s.ports fun p => { p with replay := none } } :=
    { SameFooting.refl s with
      port := fun c l => by
        show _ → (Tab.nth (Tab.each s.ports fun p => { p with replay := none }) c).state.Follows l
        rw [Tab.nth_each]
        exact id }
  have hend (u : State) : SameFooting u (applyHold { u with restart := none }) :=
    SameFooting.trans (u := { u with restart := none }) (.of_fields rfl rfl rfl rfl rfl) (footing_applyHold _)
  have hp := hc.trans (footing_modPort_aside _ job.requester (f := fun p => { p with replay := some (restartResponse job s) })
    fun _ => rfl)
  unfold finishRestart
  dsimp only
  refine SameFooting.trans ?_ (hend _)
  split
  · exact hp.trans (footing_modPort_aside _ job.requester fun _ => rfl)
  · exact hp

end

/-! ## Requests -/

/-- The operation leaves the footing as it is. -/
def OpSameFooting (op : State → Answer) : Prop := ∀ s, SameFooting s (op s).state

theorem opSameFooting_release : OpSameFooting opRelease := footing_freeLease

theorem opSameFooting_read (table : Byte) (index : Half) (page : Byte) : OpSameFooting (opRead table index page) :=
  fun s => by
    unfold opRead
    split
    · exact .refl s
    · split <;> exact .refl s

theorem opSameFooting_writeDevice (index : Half) (page : Byte) (image : Page) :
    OpSameFooting (opWriteDevice index page image) := fun s => by
  unfold opWriteDevice
  split
  · split
    · exact .refl s
    · split
      · exact .refl s
      · rename_i d _
        have hd : SameFooting s { s with device := d } := .of_fields rfl rfl rfl rfl rfl
        exact (hd.trans (footing_applyHold _)).placeNotice
  · exact .refl s

theorem opSameFooting_writeSteering (which : Bank) (index : Half) (page : Byte) (image : Page) :
    OpSameFooting (opWriteSteering which index page image) := fun s => by
  unfold opWriteSteering
  split
  · split
    · exact .refl s
    · split
      · exact .refl s
      · split
        · exact .refl s
        · cases which <;> exact .of_fields rfl rfl rfl rfl rfl
  · exact .refl s

theorem opSameFooting_writeClass (index : Half) (page : Byte) (image : Page) :
    OpSameFooting (opWriteClass index page image) := fun s => by
  unfold opWriteClass
  split
  · split
    · exact .refl s
    · split
      · exact .refl s
      · split
        · exact .refl s
        · exact footing_modClass s _ _
  · exact .refl s

theorem opSameFooting_writeConsumer (index : Half) (page : Byte) (image : Page) :
    OpSameFooting (opWriteConsumer index page image) := fun s => by
  unfold opWriteConsumer
  split
  · split
    · exact .refl s
    · split
      · exact .refl s
      · split
        · exact .refl s
        · exact footing_modPort_aside s _ fun _ => rfl
  · exact .refl s

theorem opSameFooting_write (table : Byte) (index : Half) (page : Byte) (image : Page) :
    OpSameFooting (opWrite table index page image) := fun s => by
  unfold opWrite
  split
  · exact .refl s
  · split
    · exact opSameFooting_writeDevice index page image s
    · exact opSameFooting_writeSteering _ index page image s
    · exact opSameFooting_writeClass index page image s
    · exact opSameFooting_writeConsumer index page image s
    all_goals exact .refl s

theorem opSameFooting_swap : OpSameFooting opSwap := fun s => by
  unfold opSwap
  split <;> exact .of_fields rfl rfl rfl rfl rfl

theorem opSameFooting_classEnable (index : Half) : OpSameFooting (opClassEnable index) := fun s => by
  unfold opClassEnable
  split
  · unfold enableClass
    split
    · split
      · exact .refl s
      · exact footing_modClass s _ _
    · exact footing_modClass s _ _
    · exact .refl s
  · exact .refl s

theorem opSameFooting_classDisable (index : Half) (flag : Byte) : OpSameFooting (opClassDisable index flag) := fun s => by
  unfold opClassDisable
  split
  · split
    · exact .refl s
    · unfold disableClass
      split
      · exact .refl s
      · exact (footing_closeClass s _ _).placeNotice
      · split
        · exact (footing_closeClass s _ _).placeNotice
        · exact .refl s
  · exact .refl s

/-- A consumer that is OFF says nothing of its link. -/
theorem opSameFooting_consumerDisable (index : Half) : OpSameFooting (opConsumerDisable index) := fun s => by
  have hp (n : ConsumerIdx) : SameFooting s (portDisable n s) :=
    (footing_modPort s fun l _ => follows_off l).trans (footing_vacate _ n)
  unfold opConsumerDisable
  split
  · unfold disableConsumer
    split
    · exact .refl s
    · exact (hp _).placeNotice
  · exact .refl s

theorem opSameFooting_takeLog (index : Half) (page : Byte) : OpSameFooting (opTakeLog index page) := fun s => by
  unfold opTakeLog
  split
  · split
    · exact .refl s
    · split
      · exact .refl s
      · dsimp only [okay]
        split
        · exact .of_fields rfl rfl rfl rfl rfl
        · exact .refl s
  · exact .refl s

theorem opSameFooting_clearCounts : OpSameFooting opClearCounts := fun s =>
  { SameFooting.refl s with
    link := fun c => (congrArg (fun x : Link => x.state = .up) (s.cleared_link (.consumer c))).to_iff
    port := fun c l => by
      show _ → (s.cleared.port c).state.Follows l
      rw [State.cleared_port]
      exact id }

theorem opSameFooting_freeze : OpSameFooting opFreeze := fun s => { SameFooting.refl s with frozen := fun _ => rfl }

end Sys2Proof.Machine
end

section
/-! # Ports with links, the frozen flag and the Timebase along every command: O58 and O60

A link that comes UP makes a DETACHED consumer WAITING, and one that leaves UP makes its consumer DETACHED and frees the lease
that it holds; a claim comes in on an UP link. Of the commands that move the clock each is excepted by name. -/

namespace Sys2Proof.Machine

/-- From `s` to `t` the command `i` keeps the laws of ports and links, the frozen flag unless it is POR, and the Timebase
unless it is POR, a microsecond or SET_TIME. -/
structure KeepsFooting (i : Instr) (s t : State) : Prop where
  holder : HolderLinkUp s → HolderLinkUp t
  ports : PortsFollowLinks s → PortsFollowLinks t
  frozen : i ≠ .por → s.frozen = true → t.frozen = true
  timebase : i ≠ .por → i ≠ .timebaseCount → (∀ c seq value, i ≠ .setTime c seq value) → t.timebase = s.timebase

section

variable {i : Instr} {s u t : State}

theorem SameFooting.keeps (h : SameFooting s t) : KeepsFooting i s t :=
  ⟨h.holderLinkUp, h.portsFollowLinks, fun _ => h.frozen, fun _ _ _ => h.timebase⟩

theorem KeepsFooting.refl (s : State) : KeepsFooting i s s := (SameFooting.refl s).keeps

theorem KeepsFooting.trans (h : KeepsFooting i s u) (g : KeepsFooting i u t) : KeepsFooting i s t where
  holder := g.holder ∘ h.holder
  ports := g.ports ∘ h.ports
  frozen hp := g.frozen hp ∘ h.frozen hp
  timebase hp ht hs := (g.timebase hp ht hs).trans (h.timebase hp ht hs)

/-! ## The passages of a link (R164, R169) -/

/-- A link comes UP: a lease holder's link stays so, and a DETACHED consumer becomes WAITING (R89). -/
theorem keepsFooting_linkComesUp (l : LinkId) {f : Link → Link} (hf : ∀ x, (f x).state = .up) :
    KeepsFooting i s (linkComesUp l (s.modLink l f)) := by
  cases l with
  | source n => exact (footing_modSource s n f).keeps
  | consumer c =>
    refine ⟨fun h => holderLinkUp_iff.mpr fun d hd => ?_, fun h => portsFollowLinks_iff.mpr fun d => ?_, fun _ => id,
      fun _ _ _ => rfl⟩
    · show ((s.modLink (.consumer c) f).link (.consumer d)).state = .up
      rw [State.modLink_link]
      split
      · exact hf _
      · exact holderLinkUp_iff.mp h d hd
    · have hd := portsFollowLinks_iff.mp h d
      show (((s.modLink (.consumer c) f).modPort c _).port d).state.Follows
        ((s.modLink (.consumer c) f).link (.consumer d)).state
      rw [State.modPort_port, State.modLink_port, State.modLink_link]
      by_cases he : d = c
      · subst he
        rw [if_pos rfl, if_pos rfl, hf]
        split
        · exact ⟨nofun, fun _ => rfl⟩
        · rename_i hne
          exact ⟨fun hdet => absurd hdet hne, fun _ => rfl⟩
      · rw [if_neg he, if_neg fun e => he (LinkId.consumer.inj e)]
        exact hd

/-- A consumer whose link has left UP is DETACHED or OFF, whatever else it was (R93). -/
theorem follows_detach (x : ConsumerState) : x.detach.Follows .down := by
  cases x with
  | off => exact follows_off _
  | _ => exact ⟨fun _ => nofun, nofun⟩

/-- What follows the detachment of its consumer when a link leaves UP. -/
theorem footing_linkLeavesUp (c : ConsumerIdx) (v : State) :
    SameFooting (v.modPort c fun p => { p with state := p.state.detach }) (linkLeavesUp (.consumer c) v) := by
  refine SameFooting.placeNotice (SameFooting.trans ?_ (footing_freeLeaseOf _ c))
  refine SameFooting.trans ?_ (footing_modLink_aside _ _ fun _ => rfl)
  exact footing_vacate _ c

theorem linkLeavesUp_holds (c : ConsumerIdx) (v : State) : (linkLeavesUp (.consumer c) v).holds c = false := by
  unfold linkLeavesUp
  dsimp only
  rw [placeNotice_frame]
  exact freeLeaseOf_holds c _

theorem goDown_linkState (l m : LinkId) (g : Link → Link) (s : State) :
    ((goDown l (s.modLink l g)).link m).state = if m = l then .down else (s.link m).state := by
  unfold goDown
  rw [State.modLink_link]
  split
  · rfl
  · rename_i hm
    rw [State.modLink_link_ne _ _ _ hm]

/-- A link leaves UP: its consumer is DETACHED and holds the lease no more (R93, R153). -/
theorem keepsFooting_linkLeavesUp (l : LinkId) (g : Link → Link) (s : State) :
    KeepsFooting i s (linkLeavesUp l (goDown l (s.modLink l g))) := by
  cases l with
  | source n =>
    have hw (v : State) : SameFooting v (resetLevels n (v.modLink (.source n) fun x => { x with wire := .quiet })) :=
      (footing_modSource v n fun x => { x with wire := .quiet }).trans (.of_fields rfl rfl rfl rfl rfl)
    have hd : SameFooting s (goDown (.source n) (s.modLink (.source n) g)) :=
      (footing_modSource s n g).trans (footing_modSource _ n _)
    exact ((hd.trans (hw _)).trans (footing_catchUp _ n)).keeps
  | consumer c =>
    have hlink (d : ConsumerIdx) := goDown_linkState (.consumer c) (.consumer d) g s
    have hf := footing_linkLeavesUp c (goDown (.consumer c) (s.modLink (.consumer c) g))
    have hh := linkLeavesUp_holds c (goDown (.consumer c) (s.modLink (.consumer c) g))
    generalize linkLeavesUp (.consumer c) _ = t at hf hh ⊢
    refine ⟨fun h => holderLinkUp_iff.mpr fun d hd => (hf.link d).mpr ?_,
      fun h => hf.portsFollowLinks (portsFollowLinks_iff.mpr fun d => ?_), fun _ => hf.frozen, fun _ _ _ => hf.timebase⟩
    · have hne : LinkId.consumer d ≠ .consumer c := by
        rintro ⟨⟩
        exact Bool.false_ne_true (hh.symm.trans hd)
      rw [State.modPort_link, hlink, if_neg hne]
      exact holderLinkUp_iff.mp h d (hf.holder d hd)
    · rw [State.modPort_port, State.modPort_link, hlink]
      by_cases he : d = c
      · subst he
        rw [if_pos rfl, if_pos rfl]
        exact follows_detach _
      · rw [if_neg he, if_neg fun e => he (LinkId.consumer.inj e)]
        exact portsFollowLinks_iff.mp h d

theorem keepsFooting_goodAligning (l : LinkId) (s : State) : KeepsFooting i s (goodAligning l s) := by
  unfold goodAligning
  split
  · exact keepsFooting_linkComesUp l fun _ => rfl
  · exact SameFooting.keeps (footing_modLink_aside s l fun _ => rfl)

/-- The fourth bad cell in a row takes the link out of UP, and with a signal present on to ALIGNING (log 10). -/
theorem keepsFooting_badCellUp (l : LinkId) (s : State) : KeepsFooting i s (badCellUp l s) := by
  obtain ⟨v, -, hdown, hsame⟩ := leavesUp_cases l (fun x => { x with badCells := satUp x.badCells }) s
  have hleft := keepsFooting_linkLeavesUp (i := i) l (fun x => { x with badCells := satUp x.badCells }) s
  unfold badCellUp
  dsimp only
  split
  · split
    · refine hleft.trans (footing_beginAligning _ ?_).keeps
      rw [hsame.linkState, hdown]
      nofun
    · exact hleft
  · refine SameFooting.keeps (SameFooting.trans ?_ (footing_modLink_aside _ l fun _ => rfl))
    exact footing_modLink_aside s l fun _ => rfl

/-! ## Received cells -/

theorem keepsFooting_goodCell {k : State → State} {l : LinkId} (s : State)
    (hk : ∀ u, (u.link l).state = .up → KeepsFooting i u (k u)) : KeepsFooting i s (goodCell l k s) := by
  unfold goodCell
  split
  · exact .refl s
  · exact keepsFooting_goodAligning l s
  · rename_i h
    have hheard : KeepsFooting i s (s.modLink l fun x => { x with alignCount := 0, badRun := 0 }) :=
      SameFooting.keeps (footing_modLink_aside s l fun _ => rfl)
    refine hheard.trans (hk _ ?_)
    rw [State.modLink_link_same]
    exact h

theorem keepsFooting_passOn {k : State → State} {l : LinkId} (s : State)
    (hk : ∀ u, (u.link l).state = .up → KeepsFooting i u (k u)) : KeepsFooting i s (passOn l k s) := by
  refine keepsFooting_goodCell s fun u hu => ?_
  split
  · exact SameFooting.keeps (footing_modLink_aside u l fun _ => rfl)
  · exact hk u hu

theorem keepsFooting_takeMalformed (l : LinkId) (s : State) : KeepsFooting i s (takeMalformed l s) := by
  refine keepsFooting_goodCell s fun u _ => SameFooting.keeps (SameFooting.trans ?_ (footing_settle _ l))
  have hm : SameFooting u (u.modLink l fun x => { x with malformed := satUp x.malformed }) :=
    footing_modLink_aside u l fun _ => rfl
  exact hm.trans (.of_fields rfl rfl rfl rfl rfl)

/-! ## Requests -/

/-- The operation keeps the laws when its sender's link is UP. -/
def OpKeepsFooting (i : Instr) (c : ConsumerIdx) (op : State → Answer) : Prop :=
  ∀ s, (s.link (.consumer c)).state = .up → KeepsFooting i s (op s).state

variable {op : State → Answer} {c : ConsumerIdx}

theorem OpSameFooting.keeps (h : OpSameFooting op) : OpKeepsFooting i c op := fun s _ => (h s).keeps

theorem OpKeepsFooting.holderOnly (h : OpKeepsFooting i c op) : OpKeepsFooting i c (holderOnly c op) := fun s hup => by
  unfold Machine.holderOnly
  split
  · exact h s hup
  · exact .refl s

theorem keepsFooting_request (ho : OpKeepsFooting i c op) (seq : Byte) (s : State) :
    KeepsFooting i s (request c seq op s) := by
  refine keepsFooting_passOn s fun u hup => ?_
  have hport (v : State) (f g : Port → Port) (hf : ∀ p, (f p).state = p.state) (hg : ∀ p, (g p).state = p.state) :
      SameFooting v (renewLease c ((v.modPort c f).modPort c g)) :=
    ((footing_modPort_aside v c hf).trans (footing_modPort_aside _ c hg)).trans (footing_renewLease _ c)
  have hcarry : KeepsFooting i u (carryOut c seq op u) := by
    unfold carryOut
    dsimp only
    split
    · exact ho u hup
    · exact (ho u hup).trans (SameFooting.keeps (hport _ _ _ (fun _ => rfl) fun _ => rfl))
  unfold intake
  split
  · exact SameFooting.keeps (footing_modPort_aside u c fun _ => rfl)
  · split
    · exact hcarry
    · split
      · exact SameFooting.keeps (hport u _ _ (fun _ => rfl) fun _ => rfl)
      · exact hcarry

/-- The sender's link is UP, so it may come to hold the lease (R150). -/
theorem opKeepsFooting_claim (c : ConsumerIdx) : OpKeepsFooting i c (opClaim c) := fun s hup => by
  unfold opClaim
  dsimp only
  split
  · have hl (n : Nat) : KeepsFooting i s { s with lease := some ⟨c, n⟩ } := by
      refine ⟨fun _ x hx => ?_, id, fun _ => id, fun _ _ _ => rfl⟩
      obtain rfl := Option.some.inj hx
      exact hup
    exact (hl _).trans (steered_placeNotice _).footing.keeps
  · split <;> exact .refl s

/-- A consumer that comes into service does so as its link has it (R88). -/
theorem opKeepsFooting_consumerEnable (index : Half) : OpKeepsFooting i c (opConsumerEnable index) := fun s _ => by
  unfold opConsumerEnable
  split
  · unfold enableConsumer
    split
    · refine ⟨id, fun h => portsFollowLinks_iff.mpr fun d => ?_, fun _ => id, fun _ _ _ => rfl⟩
      show ((s.modPort _ _).port d).state.Follows (s.link (.consumer d)).state
      rw [State.modPort_port]
      split
      · rename_i e
        rw [e]
        exact follows_inService _
      · exact portsFollowLinks_iff.mp h d
    all_goals exact .refl s
  · exact .refl s

theorem opKeepsFooting_setTime (seq : Byte) (value : Stamp) :
    OpKeepsFooting (.setTime c seq value) c (opSetTime value) := fun _ _ =>
  ⟨id, id, fun _ => id, fun _ _ h => absurd rfl (h c seq value)⟩

/-! ## The soft restart -/

/-- With retain a consumer stays in service as its link has it; without, every consumer is OFF (R104). -/
theorem follows_restarted (keep : Bool) (l : LinkState) (p : Port) : (p.restarted keep l).state.Follows l := by
  unfold Port.restarted
  split
  · show (p.state.kept l).Follows l
    cases p.state with
    | off => exact follows_off l
    | _ => exact follows_inService l
  · exact follows_off l

/-- A restart frees the lease and leaves the links in their states (R160, R164). -/
theorem keepsFooting_beginRestart (job : RestartJob) (s : State) : KeepsFooting i s (beginRestart job s) := by
  have he (v : State) : KeepsFooting i v (emptyBlocks job v) := by
    refine ⟨fun _ => holderLinkUp_iff.mpr nofun, fun _ => portsFollowLinks_iff.mpr fun c => ?_, fun _ => id,
      fun _ _ _ => rfl⟩
    have hp : (emptyBlocks job v).port c = (v.port c).restarted job.retain (v.link (.consumer c)).state :=
      nth_restartPorts job.retain v c
    have hl : (emptyBlocks job v).link (.consumer c) =
        { (v.link (.consumer c)).cleared with wire := (v.link (.consumer c)).wire.emptied } := Tab.nth_each _ _ _
    rw [hp, hl]
    exact follows_restarted _ _ _
  exact (footing_catchUpAll s).keeps.trans (he _)

theorem opKeepsFooting_restart (seq flag : Byte) : OpKeepsFooting i c (opRestart c seq flag) := fun s _ => by
  unfold opRestart
  split
  · exact .refl s
  · split
    · exact .refl s
    · exact keepsFooting_beginRestart _ s

/-! ## Every command -/

/-- At POR no consumer is in service and the lease is FREE (R103, R174). -/
theorem keepsFooting_execPor (h : execPor s = .next t) : KeepsFooting .por s t := by
  have hport := (atPor_execPor h).port
  have hlease : t.lease = none := by
    obtain rfl := Host.Outcome.next.inj h
    dsimp only [State.inPor]
  refine ⟨fun _ x hx => ?_, fun _ => portsFollowLinks_iff.mpr fun c => ?_, fun hne => absurd rfl hne,
    fun hne => absurd rfl hne⟩
  · exact nomatch hlease.symm.trans hx
  · rw [hport]
    exact follows_off _

theorem keepsFooting_execResetRelease (h : execResetRelease s = .next t) : KeepsFooting i s t := by
  obtain rfl := Host.Outcome.next.inj h
  split
  · refine SameFooting.keeps { SameFooting.refl s with link := fun c => ?_ }
    rw [State.link_mk, Tab.nth_each, State.nth_links]
  · exact .refl s

theorem keepsFooting_execSignalPresent {l : LinkId} (h : execSignalPresent l s = .next t) : KeepsFooting i s t := by
  have hs : SameFooting s (s.modLink l fun x => { x with signal := true }) := footing_modLink_aside s l fun _ => rfl
  obtain rfl := Host.Outcome.next.inj h
  split
  · rename_i hd
    refine (hs.trans (footing_beginAligning _ ?_)).keeps
    rw [State.modLink_link_same]
    exact hd.2 ▸ nofun
  · exact hs.keeps

theorem keepsFooting_execLossOfSignal {l : LinkId} (h : execLossOfSignal l s = .next t) : KeepsFooting i s t := by
  have hs : SameFooting s (s.modLink l fun x => { x with signal := false }) := footing_modLink_aside s l fun _ => rfl
  obtain rfl := Host.Outcome.next.inj h
  split
  · exact hs.keeps
  · rename_i ha
    refine SameFooting.keeps (hs.trans (footing_modLink _ fun _ _ => ⟨nofun, fun hu => ?_⟩))
    rw [State.modLink_link_same] at hu
    exact nomatch ha.symm.trans hu
  · exact keepsFooting_linkLeavesUp l _ s

theorem keepsFooting_execGoodCellAligning {l : LinkId} (h : execGoodCellAligning l s = .next t) :
    KeepsFooting i s t := by
  obtain rfl := Host.Outcome.next.inj h
  split
  · exact .refl s
  · exact keepsFooting_goodAligning l s
  · exact .refl s

theorem keepsFooting_execBadCell {l : LinkId} (h : execBadCell l s = .next t) : KeepsFooting i s t := by
  obtain rfl := Host.Outcome.next.inj h
  split
  · exact .refl s
  · exact SameFooting.keeps (footing_modLink_aside s l fun _ => rfl)
  · exact keepsFooting_badCellUp l s

theorem keepsFooting_execIdle {l : LinkId} (h : execIdle l s = .next t) : KeepsFooting i s t := by
  obtain rfl := Host.Outcome.next.inj h
  exact keepsFooting_goodCell s fun u _ => (footing_settle u l).keeps

theorem keepsFooting_execEvent {n : Fin 4} {m : Fin 16} {ch : Fin 64} {kind : Kind} {datum : Half}
    (h : execEvent n m ch kind datum s = .next t) : KeepsFooting i s t := by
  obtain rfl := Host.Outcome.next.inj h
  split
  · exact keepsFooting_passOn s fun u _ => (footing_passEvent u _).keeps
  · exact keepsFooting_takeMalformed _ s

theorem keepsFooting_execAck {tags : List Tag} (h : execAck c tags s = .next t) : KeepsFooting i s t := by
  obtain rfl := Host.Outcome.next.inj h
  split
  · exact keepsFooting_passOn s fun u _ => (SameFooting.foldl (fun v => footing_takeAckTag v c) tags u).keeps
  · exact keepsFooting_takeMalformed _ s

theorem keepsFooting_execNackBusy {tag : Tag} (h : execNackBusy c tag s = .next t) : KeepsFooting i s t := by
  obtain rfl := Host.Outcome.next.inj h
  refine keepsFooting_passOn s fun u _ => SameFooting.keeps ?_
  split
  · unfold busyFailure
    exact SameFooting.placeNotice (footing_failure u c _ _ fun _ => rfl)
  · exact footing_modPort_aside u c fun _ => rfl

theorem keepsFooting_execNackReject {tag : Tag} (h : execNackReject c tag s = .next t) : KeepsFooting i s t := by
  obtain rfl := Host.Outcome.next.inj h
  refine keepsFooting_passOn s fun u _ => SameFooting.keeps ?_
  split
  · refine SameFooting.placeNotice (SameFooting.trans ?_ (footing_abandon _ _ .rejected))
    exact footing_modPort_aside u c fun _ => rfl
  · exact footing_modPort_aside u c fun _ => rfl

theorem keepsFooting_execLoad {level : Fin 16} (h : execLoad c level s = .next t) : KeepsFooting i s t := by
  obtain rfl := Host.Outcome.next.inj h
  exact keepsFooting_passOn s fun u _ => (footing_takeLoad u c level).keeps

theorem keepsFooting_execExpiry {r : Fin 512} (h : execExpiry r s = .next t) : KeepsFooting i s t := by
  obtain rfl := Host.Outcome.next.inj h
  split
  · split
    · refine SameFooting.keeps (SameFooting.placeNotice (SameFooting.trans ?_ (footing_suspectCheck _ _)))
      exact footing_failure s _ _ r fun _ => rfl
    · exact .refl s
  all_goals exact .refl s

theorem keepsFooting_execGrant (h : execGrant s = .next t) : KeepsFooting i s t := by
  obtain rfl := Host.Outcome.next.inj h
  split
  · exact .refl s
  · split
    · exact .refl s
    · exact (footing_grantRecord s _ _ _ _).keeps

theorem keepsFooting_execCellSlot {l : LinkId} (h : execCellSlot l s = .next t) : KeepsFooting i s t := by
  obtain rfl := Host.Outcome.next.inj h
  refine SameFooting.keeps ?_
  split
  · exact .refl s
  · split
    · exact footing_putOnWire s _ _
    · split
      · exact .refl s
      · split
        · exact footing_putOnWire s _ _
        · exact footing_putOnWire s _ _
        · exact footing_consumerSlot s _

theorem keepsFooting_execSendCompletion (h : execSendCompletion c s = .next t) : KeepsFooting i s t := by
  have hq : SameFooting s (quieted c s) := footing_modLink_aside s _ fun _ => rfl
  obtain rfl := Host.Outcome.next.inj h
  refine SameFooting.keeps ?_
  split
  · exact .refl s
  · exact hq
  · split
    · exact hq.trans (footing_deliverSent _ c _)
    all_goals exact .refl s

theorem keepsFooting_execLeaseTimerExpiry (h : execLeaseTimerExpiry s = .next t) : KeepsFooting i s t := by
  obtain rfl := Host.Outcome.next.inj h
  refine SameFooting.keeps ?_
  split
  · exact .refl s
  · split
    · exact footing_freeLease s
    · exact .refl s

theorem keepsFooting_execEndOfRestart (h : execEndOfRestart s = .next t) : KeepsFooting i s t := by
  obtain rfl := Host.Outcome.next.inj h
  split
  · exact .refl s
  · exact (footing_finishRestart s _).keeps

/-- The lease timer runs, and the holder stays. -/
theorem keepsFooting_execTimebaseCount (h : execTimebaseCount s = .next t) : KeepsFooting .timebaseCount s t := by
  obtain rfl := Host.Outcome.next.inj h
  split
  · exact .refl s
  · refine ⟨fun hs x hx => ?_, id, fun _ => id, fun _ hne => absurd rfl hne⟩
    obtain ⟨y, hy, rfl⟩ := Option.map_eq_some_iff.mp hx
    exact hs y hy

/-- A request whose operation keeps the laws. -/
theorem keepsFooting_of_request (ho : OpKeepsFooting i c op) {seq : Byte}
    (h : (.next (request c seq op s) : Result) = .next t) : KeepsFooting i s t :=
  Host.Outcome.next.inj h ▸ keepsFooting_request ho seq s

/-- A request that needs the lease, whose operation leaves the footing as it is. -/
theorem keepsFooting_of_holder_request (ho : OpSameFooting op) {seq : Byte}
    (h : (.next (request c seq (holderOnly c op) s) : Result) = .next t) : KeepsFooting i s t :=
  keepsFooting_of_request ho.keeps.holderOnly h

/-- What each command keeps of ports, links, lease and clock. -/
theorem exec_keepsFooting (h : exec i s = .next t) : KeepsFooting i s t := by
  cases i with
  | por => exact keepsFooting_execPor h
  | resetRelease => exact keepsFooting_execResetRelease h
  | signalPresent l => exact keepsFooting_execSignalPresent h
  | lossOfSignal l => exact keepsFooting_execLossOfSignal h
  | goodCellAligning l => exact keepsFooting_execGoodCellAligning h
  | badCell l => exact keepsFooting_execBadCell h
  | malformedCell l => exact Host.Outcome.next.inj h ▸ keepsFooting_takeMalformed l s
  | idle l => exact keepsFooting_execIdle h
  | event n m ch kind datum => exact keepsFooting_execEvent h
  | ack c tags => exact keepsFooting_execAck h
  | nackBusy c tag => exact keepsFooting_execNackBusy h
  | nackReject c tag => exact keepsFooting_execNackReject h
  | load c level => exact keepsFooting_execLoad h
  | expiry r => exact keepsFooting_execExpiry h
  | grant => exact keepsFooting_execGrant h
  | cellSlot l => exact keepsFooting_execCellSlot h
  | sendCompletion c => exact keepsFooting_execSendCompletion h
  | leaseTimerExpiry => exact keepsFooting_execLeaseTimerExpiry h
  | endOfRestart => exact keepsFooting_execEndOfRestart h
  | timebaseCount => exact keepsFooting_execTimebaseCount h
  | badOp c seq op => exact keepsFooting_of_request (OpSameFooting.keeps fun u => .refl u) h
  | claim c seq => exact keepsFooting_of_request (opKeepsFooting_claim c) h
  | read c seq table index page => exact keepsFooting_of_request (opSameFooting_read table index page).keeps h
  | consumerEnable c seq index => exact keepsFooting_of_request (opKeepsFooting_consumerEnable index).holderOnly h
  | setTime c seq value => exact keepsFooting_of_request (opKeepsFooting_setTime seq value).holderOnly h
  | restart c seq flag => exact keepsFooting_of_request (opKeepsFooting_restart seq flag).holderOnly h
  | release c seq => exact keepsFooting_of_holder_request opSameFooting_release h
  | write c seq table index page image =>
    exact keepsFooting_of_holder_request (opSameFooting_write table index page image) h
  | writeDevice c seq index page image =>
    exact keepsFooting_of_holder_request (opSameFooting_writeDevice index page image) h
  | writeSteering c seq which index page image =>
    exact keepsFooting_of_holder_request (opSameFooting_writeSteering which index page image) h
  | writeClass c seq index page image =>
    exact keepsFooting_of_holder_request (opSameFooting_writeClass index page image) h
  | writeConsumer c seq index page image =>
    exact keepsFooting_of_holder_request (opSameFooting_writeConsumer index page image) h
  | swap c seq => exact keepsFooting_of_holder_request opSameFooting_swap h
  | classEnable c seq index => exact keepsFooting_of_holder_request (opSameFooting_classEnable index) h
  | classDisable c seq index flag => exact keepsFooting_of_holder_request (opSameFooting_classDisable index flag) h
  | consumerDisable c seq index => exact keepsFooting_of_holder_request (opSameFooting_consumerDisable index) h
  | takeLog c seq index page => exact keepsFooting_of_holder_request (opSameFooting_takeLog index page) h
  | clearCounts c seq => exact keepsFooting_of_holder_request opSameFooting_clearCounts h
  | freeze c seq => exact keepsFooting_of_holder_request opSameFooting_freeze h

end

/-- Settles O58: the command at the front of the queue is carried out in a state that differs in the queue alone. -/
theorem everyStepKeepsPortsWithLinks : Obligations.EveryStepKeepsPortsWithLinks := by
  intro s t h
  unfold step at h
  split at h
  · obtain rfl := Host.Outcome.next.inj h
    exact ⟨id, id⟩
  · have hq (q : List Instr) : SameFooting s { s with pending := q } := .of_fields rfl rfl rfl rfl rfl
    have hk := (hq _).keeps.trans (exec_keepsFooting h)
    exact ⟨hk.holder, hk.ports⟩

/-- Settles O60. -/
theorem frozenFlagAndTimebase : Obligations.FrozenFlagAndTimebase := fun _ _ _ h =>
  ⟨fun hz hne => (exec_keepsFooting h).frozen hne hz, (exec_keepsFooting h).timebase⟩

end Sys2Proof.Machine
end

section
/-! # The order in which cells that wait are taken (R48, R168) -/

namespace Sys2Proof.Machine

section

variable {waiting : Tab (List Arrival) 4}

theorem inTurn_skip {n : Fin 4} {rest : List (Fin 4)} (h : Tab.nth waiting n = []) :
    inTurn (n :: rest) waiting = inTurn rest waiting := by
  rw [inTurn, h]

theorem inTurn_take {n : Fin 4} {rest : List (Fin 4)} {x : Arrival} {xs : List Arrival}
    (h : Tab.nth waiting n = x :: xs) : inTurn (n :: rest) waiting = x :: inTurn rest (Tab.put waiting n xs) := by
  rw [inTurn, h]

/-- The cells that wait on each link are cells of that link. -/
def OfOwnLink (waiting : Tab (List Arrival) 4) : Prop := ∀ n, ∀ x ∈ Tab.nth waiting n, x.addr.link = n

theorem filter_ofOwnLink (h : OfOwnLink waiting) (m n : Fin 4) :
    (Tab.nth waiting m).filter (fun x => x.addr.link == n) = if m = n then Tab.nth waiting m else [] := by
  split
  · rename_i e
    subst e
    exact List.filter_eq_self.mpr fun x hx => beq_iff_eq.mpr (h m x hx)
  · rename_i hne
    exact List.filter_eq_nil_iff.mpr fun x hx he => hne ((h m x hx).symm.trans (beq_iff_eq.mp he))

/-- Taken link by link, the cells of each link stand in their order. -/
theorem flatten_filter (h : OfOwnLink waiting) (n : Fin 4) :
    waiting.toList.flatten.filter (fun x => x.addr.link == n) = Tab.nth waiting n := by
  have hl : waiting.toList = [Tab.nth waiting 0, Tab.nth waiting 1, Tab.nth waiting 2, Tab.nth waiting 3] :=
    List.ext_getElem (by simp) fun i hi _ => by
      have hlt : i < 4 := by simpa using hi
      interval_cases i <;> rfl
  rw [hl]
  simp only [List.flatten_cons, List.flatten_nil, List.append_nil, List.filter_append, filter_ofOwnLink h]
  fin_cases n <;> simp

theorem ofOwnLink_put (h : OfOwnLink waiting) {n : Fin 4} {x : Arrival} {xs : List Arrival}
    (hn : Tab.nth waiting n = x :: xs) : OfOwnLink (Tab.put waiting n xs) := fun m y hy => by
  rw [Tab.nth_put] at hy
  split at hy
  · rename_i e
    subst e
    exact h m y (hn ▸ List.mem_cons_of_mem x hy)
  · exact h m y hy

/-- In whatever turn the links come, the cells of each keep the order of their arrival (R168). -/
theorem inTurn_filter (turn : List (Fin 4)) (h : OfOwnLink waiting) (n : Fin 4) :
    (inTurn turn waiting).filter (fun x => x.addr.link == n) = Tab.nth waiting n := by
  induction turn generalizing waiting with
  | nil => exact flatten_filter h n
  | cons m rest ih =>
    cases hm : Tab.nth waiting m with
    | nil => rw [inTurn_skip hm, ih h]
    | cons x xs =>
      have hx : x.addr.link = m := h m x (hm ▸ List.mem_cons_self)
      rw [inTurn_take hm, List.filter_cons, ih (ofOwnLink_put h hm), Tab.nth_put, hx]
      by_cases hn : n = m
      · subst hn
        simp [hm]
      · simp [hn, Ne.symm hn]

/-- With no cell waiting none is taken. -/
theorem inTurn_empty (turn : List (Fin 4)) (h : ∀ n, Tab.nth waiting n = []) : inTurn turn waiting = [] := by
  have hown : OfOwnLink waiting := fun n x hx => absurd (h n ▸ hx) List.not_mem_nil
  refine List.eq_nil_iff_forall_not_mem.mpr fun x hx => ?_
  have hmem : x ∈ (inTurn turn waiting).filter (fun y => y.addr.link == x.addr.link) :=
    List.mem_filter.mpr ⟨hx, beq_self_eq_true _⟩
  rw [inTurn_filter turn hown, h] at hmem
  exact List.not_mem_nil hmem

/-- Every order that keeps the order of each link's cells is one that the sender can choose (R48; log 23). -/
theorem inTurn_of_order (order : List Arrival)
    (h : ∀ n, order.filter (fun x => x.addr.link == n) = Tab.nth waiting n) :
    inTurn (order.map fun x => x.addr.link) waiting = order := by
  induction order generalizing waiting with
  | nil => exact inTurn_empty _ fun n => (h n).symm
  | cons x xs ih =>
    have hx : Tab.nth waiting x.addr.link = x :: xs.filter (fun y => y.addr.link == x.addr.link) := by
      rw [← h]
      exact List.filter_cons_of_pos (beq_self_eq_true x.addr.link)
    rw [List.map_cons, inTurn_take hx]
    refine congrArg (x :: ·) (ih fun n => ?_)
    rw [Tab.nth_put]
    split
    · rename_i e
      rw [e]
    · rename_i hne
      rw [← h]
      refine (List.filter_cons_of_neg (a := x) ?_).symm
      exact fun e => hne (beq_iff_eq.mp e).symm

end

end Sys2Proof.Machine
end

section
/-! # The soft restart: O49 and O50 -/

namespace Sys2Proof.Machine

/-! ## What each block is put at (R160) -/

theorem EventRecord.emptied_free {e : EventRecord} (h : e.place = .free) :
    e.emptied = { EventRecord.por with generation := e.generation } := by
  unfold EventRecord.emptied
  rw [h]

theorem EventRecord.emptied_held {e : EventRecord} (h : e.place ≠ .free) :
    e.emptied = { EventRecord.por with generation := e.generation + 1 } := by
  unfold EventRecord.emptied
  split
  · rename_i hf
    exact absurd hf h
  all_goals rfl

theorem Wire.emptied_other {w : Wire} (h : ∀ d, w ≠ .sending (.deliver d)) : w.emptied = w := by
  cases w with
  | quiet => rfl
  | finishing d => rfl
  | sending x =>
    cases x with
    | deliver d => exact absurd rfl (h d)
    | _ => rfl

theorem ClassState.kept_eq (x : ClassState) : x.kept = if x = .enabled then .enabled else .disabled := by
  cases x <;> rfl

theorem ConsumerState.kept_eq (x : ConsumerState) (l : LinkState) :
    x.kept l = if x = .off then .off else if l = .up then .waiting else .detached := by
  cases x <;> cases l <;> rfl

/-! ## The beginning -/

section

variable {c : ConsumerIdx} {seq flag : Byte} {keep : Bool} {s u : State}

theorem opRestart_badValue (h : flagOf flag = none) : opRestart c seq flag u = deny .badValue u := by
  unfold opRestart
  rw [h]

theorem opRestart_frozen (h : flagOf flag = some false) (hf : u.frozen = true) :
    opRestart c seq flag u = deny .frozen u := by
  unfold opRestart
  rw [h]
  exact if_pos ⟨hf, rfl⟩

theorem opRestart_taken (h : flagOf flag = some keep) (hf : u.frozen = true → keep = true) :
    opRestart c seq flag u = ⟨beginRestart ⟨c, seq, keep⟩ u, none⟩ := by
  unfold opRestart
  rw [h]
  exact if_neg fun hn => Bool.false_ne_true (hn.2.symm.trans (hf hn.1))

/-- An operation without a response leaves its own state alone (R147, R162). -/
theorem request_unanswered {op : State → Answer} (hc : Carried s c seq) (h : op (heardFrom c s) = ⟨u, none⟩) :
    request c seq op s = u := by
  rw [request_intake hc.up hc.noRestart, intake_new (s := heardFrom c s) op hc.slotEmpty hc.notReplay]
  unfold carryOut
  rw [h]

/-- The state once every cell that waits has been taken. -/
def taken (s : State) : State := (inTurn (s.turns.headD []) s.handed).foldl takeArrival s

theorem taken_steered (s : State) : Steered s (taken s) := steered_takeArrivals s _

theorem taken_eq_self (h : ∀ n, Tab.nth s.handed n = []) : taken s = s := by
  unfold taken
  rw [inTurn_empty _ h]
  rfl

/-- The state that a RESTART leaves which is taken. -/
def restarted (c : ConsumerIdx) (seq : Byte) (keep : Bool) (s : State) : State :=
  beginRestart ⟨c, seq, keep⟩ (heardFrom c s)

/-- Hearing the REQUEST changes nothing of how the cells that wait are taken. -/
theorem catchUpAll_heardFrom (c : ConsumerIdx) (s : State) : catchUpAll (heardFrom c s) =
    (taken s).aside (heardFrom c s).links (Tab.all 4 []) s.late s.turns.tail s.freeDraws := by
  have h : (inTurn (s.turns.headD []) s.handed).foldl takeArrival (heardFrom c s) =
      (taken s).aside (heardFrom c s).links s.handed s.late s.turns s.freeDraws := takeArrivals_aside _ _ _ _ _ s _
  have he := catchUpAll_eq (heardFrom c s)
  rw [show inTurn ((heardFrom c s).turns.headD []) (heardFrom c s).handed = inTurn (s.turns.headD []) s.handed from rfl,
    h] at he
  exact he

/-- What a RESTART leaves: of the cells taken first only the generations of the records show. -/
theorem restarted_eq (c : ConsumerIdx) (seq : Byte) (keep : Bool) (s : State) : restarted c seq keep s =
    { s with
      restart := some ⟨c, seq, keep⟩
      restartCount := satUp s.restartCount
      lease := none
      device := if keep then s.device else Device.por
      records := Tab.each (taken s).records EventRecord.emptied
      freeList := allRecords
      queues := Tab.all 32 []
      bankA := if keep then s.bankA else Tab.all 64 SteerEntry.por
      bankB := if keep then s.bankB else Tab.all 64 SteerEntry.por
      activeBank := if keep then s.activeBank else .a
      unmatched := 0
      lastUnmatched := none
      hold := .asserted
      handed := Tab.all 4 []
      levels := Tab.all 4096 LevelEntry.por
      classes := (restarted c seq keep s).classes
      ports := (restarted c seq keep s).ports
      grantOrder := allConsumers
      pointers := Tab.all 4 0
      log := []
      overwrites := 0
      nextEntry := 0
      notices := NoticeSet.none
      links := (restarted c seq keep s).links
      malformedTotal := 0
      turns := s.turns.tail } := by
  have hframe := (taken_steered s).frame
  unfold restarted beginRestart
  rw [catchUpAll_heardFrom]
  generalize taken s = v at hframe ⊢
  rw [hframe]
  rfl

theorem restarted_rcd (r : RecIdx) : (restarted c seq keep s).rcd r = ((taken s).rcd r).emptied := by
  rw [restarted_eq]
  exact Tab.nth_each _ _ _

theorem restarted_cls (k : ClassIdx) : (restarted c seq keep s).cls k =
    if keep then { ClassRecord.por with config := (s.cls k).config, state := (s.cls k).state.kept }
    else ClassRecord.por := by
  obtain ⟨hconfig, hstate⟩ := (taken_steered s).classes k
  have h : (restarted c seq keep s).cls k = ((taken s).cls k).restarted keep := by
    unfold restarted beginRestart
    rw [catchUpAll_heardFrom]
    exact Tab.nth_each _ _ _
  rw [h, ClassRecord.restarted, hconfig, hstate]

theorem restarted_port (n : ConsumerIdx) : (restarted c seq keep s).port n =
    (s.port n).restarted keep (s.link (.consumer n)).state := by
  have h : (restarted c seq keep s).port n =
      ((taken s).port n).restarted keep ((heardFrom c s).link (.consumer n)).state := by
    unfold restarted beginRestart
    rw [catchUpAll_heardFrom]
    exact nth_restartPorts _ _ _
  rw [h, heardFrom_link_state, (taken_steered s).ports n]
  rfl

theorem restarted_link (l : LinkId) : (restarted c seq keep s).link l =
    { ((heardFrom c s).link l).cleared with wire := (s.link l).wire.emptied } := by
  have h : (restarted c seq keep s).link l =
      { ((heardFrom c s).link l).cleared with wire := ((heardFrom c s).link l).wire.emptied } := by
    unfold restarted beginRestart
    rw [catchUpAll_heardFrom]
    exact Tab.nth_each _ _ _
  have hw : ((heardFrom c s).link l).wire = (s.link l).wire := by
    rw [heardFrom_link]
    split <;> rfl
  rw [h, hw]

theorem exec_restart_taken (hc : HolderAsks s c seq) (h : flagOf flag = some keep)
    (hf : s.frozen = true → keep = true) : exec (.restart c seq flag) s = .next (restarted c seq keep s) := by
  have hop := opRestart_taken (c := c) (seq := seq) (u := heardFrom c s) h hf
  exact congrArg Host.Outcome.next
    (request_unanswered hc.carried ((holderOnly_holder (s := heardFrom c s) hc.holder _).trans hop))

end

/-- Settles O49: the order of the cells that wait, the tests of the flag, and each block. -/
theorem restartTakesEveryBlock : Obligations.RestartTakesEveryBlock := by
  refine ⟨fun turn _ h n => inTurn_filter turn h n, fun order _ h => inTurn_of_order order h,
    fun c seq flag s hc => ⟨fun hb => ?_, fun h0 hf => ?_, fun keep hk hf => ?_⟩⟩
  · exact congrArg Host.Outcome.next (request_holder_denied hc (opRestart_badValue (flagOf_eq_none hb)))
  · subst h0
    exact congrArg Host.Outcome.next (request_holder_denied hc (opRestart_frozen rfl hf))
  · have hflag : flagOf flag = some keep := by
      rw [hk]
      cases keep <;> rfl
    have heq := restarted_eq c seq keep s
    have hfree : (restarted c seq keep s).freeList = allRecords := by rw [heq]
    have hlink := restarted_link (c := c) (seq := seq) (keep := keep) (s := s)
    refine ⟨taken s, restarted c seq keep s, rfl, exec_restart_taken hc hflag hf, congrArg State.restart heq,
      congrArg State.restartCount heq, congrArg State.lease heq, congrArg State.device heq,
      fun r hr => (restarted_rcd r).trans (EventRecord.emptied_free hr),
      fun r hr => (restarted_rcd r).trans (EventRecord.emptied_held hr), taken_eq_self, hfree,
      fun k => (congrArg (State.queue · k) heq).trans (Tab.nth_all _ _), fun hk => ?_, fun hk => ?_,
      congrArg State.unmatched heq, congrArg State.lastUnmatched heq, congrArg State.hold heq,
      fun a => (congrArg (State.level · a) heq).trans (Tab.nth_all _ _), fun k hk => ?_, fun k hk => ?_,
      fun n hk => ?_, fun n hk => ?_, congrArg State.grantOrder heq,
      fun p => (congrArg (fun t : State => Tab.nth t.pointers p) heq).trans (Tab.nth_all _ _), congrArg State.log heq,
      congrArg State.overwrites heq, congrArg State.nextEntry heq, congrArg State.notices heq, fun l => ?_,
      fun l d hw => ?_, fun l hw => ?_,
      fun n => (congrArg (fun t : State => Tab.nth t.handed n) heq).trans (Tab.nth_all _ _),
      congrArg State.malformedTotal heq, by rw [heq], by rw [heq], by rw [heq], by rw [heq], congrArg State.turns heq,
      by rw [heq]⟩
    · subst hk
      rw [heq]
      exact ⟨rfl, rfl, rfl⟩
    · subst hk
      exact ⟨congrArg State.activeBank heq, fun i =>
        ⟨(congrArg (fun t : State => Tab.nth t.bankA i) heq).trans (Tab.nth_all _ _),
          (congrArg (fun t : State => Tab.nth t.bankB i) heq).trans (Tab.nth_all _ _)⟩⟩
    · subst hk
      exact restarted_cls k
    · subst hk
      rw [restarted_cls, if_pos rfl, ClassState.kept_eq]
    · subst hk
      exact restarted_port n
    · subst hk
      rw [restarted_port, Port.restarted, if_pos rfl, ConsumerState.kept_eq]
    · rw [hlink, heardFrom_link]
      rfl
    · rw [hlink, hw]
      rfl
    · rw [hlink]
      exact Wire.emptied_other hw

/-! ## The end -/

/-- The ports at the end of a restart: the requester's holds the response, every other replay record is absent (R162). -/
def endedPorts (job : RestartJob) (s : State) : Tab Port 6 :=
  Tab.upd (Tab.each s.ports fun p => { p with replay := none }) job.requester fun p =>
    { p with
      replay := some (restartResponse job s)
      responseSlot :=
        if (s.link (.consumer job.requester)).state = .up then some (restartResponse job s) else p.responseSlot }

theorem finishRestart_eq (job : RestartJob) (s : State) :
    finishRestart job s = applyHold { s with ports := endedPorts job s, restart := none } := by
  unfold finishRestart endedPorts placeResponse State.modPort
  dsimp only
  split
  · rw [Tab.upd_upd_same]
  · rfl

/-- Settles O50. -/
theorem restartEnds : Obligations.RestartEnds := by
  refine fun s => ⟨fun hr => ?_, fun job x hr hx => ?_⟩
  · show execEndOfRestart s = _
    unfold execEndOfRestart
    rw [hr]
  · have hexec : exec .endOfRestart s = .next (applyHold { s with ports := endedPorts job s, restart := none }) := by
      show execEndOfRestart s = _
      unfold execEndOfRestart
      rw [hr]
      exact congrArg Host.Outcome.next (finishRestart_eq job s)
    have hframe := applyHold_frame { s with ports := endedPorts job s, restart := none }
    have hhold := applyHold_hold { s with restart := none } { s with ports := endedPorts job s, restart := none } rfl rfl rfl
    have hnotices := applyHold_notices s { s with ports := endedPorts job s, restart := none } rfl rfl
    have hresponse : restartResponse job s = x := hx.symm
    refine ⟨_, hexec, ?_, fun n hn => ?_, ?_, hhold, hnotices⟩
    · generalize applyHold _ = t at hframe ⊢
      rw [hframe]
    · rw [hframe]
      exact (Tab.nth_upd_ne _ _ hn).trans (Tab.nth_each _ _ _)
    · rw [hframe, ← hresponse]
      refine (Tab.nth_upd_same _ _ _).trans ?_
      rw [Tab.nth_each]
      rfl

end Sys2Proof.Machine
end

section
/-! # Links that are not UP, and bad cells before a run of four: O5, O7, O8 and O9 -/

namespace Sys2Proof.Machine

section

variable {l : LinkId} {s : State}

/-! ## One change of one link -/

/-- A change of one link changes no other. -/
theorem modLink_onlyLink (l : LinkId) (f : Link → Link) (s : State) : OnlyLink l s (s.modLink l f) :=
  fun _ hm => State.modLink_link_ne s l f hm

/-- Two changes of one link are one change. -/
theorem modLink_modLink (l : LinkId) (f g : Link → Link) (s : State) :
    (s.modLink l f).modLink l g = s.modLink l fun x => g (f x) := by
  unfold State.modLink
  dsimp only
  rw [Tab.upd_upd_same]

/-! ## The detectors' reports -/

theorem beginAligning_link (l : LinkId) (s : State) : (beginAligning l s).link l =
    { s.link l with
      state := .aligning, alignCount := 0, badRun := 0, boundary := Config.searchStart s.freeDraws } :=
  State.modLink_link_same s l _

/-- Loss of signal takes an ALIGNING link to DOWN (R164). -/
theorem exec_lossOfSignal_aligning (h : (s.link l).state = .aligning) : exec (.lossOfSignal l) s =
    .next (s.modLink l fun x => { x with state := .down, signal := false, alignCount := 0, badRun := 0 }) := by
  show execLossOfSignal l s = _
  unfold execLossOfSignal goDown
  dsimp only
  rw [h]
  exact congrArg Host.Outcome.next (modLink_modLink l _ _ s)

/-- On a DOWN link only the report changes. -/
theorem exec_lossOfSignal_down (h : (s.link l).state = .down) : exec (.lossOfSignal l) s =
    .next (s.modLink l fun x => { x with signal := false }) := by
  show execLossOfSignal l s = _
  unfold execLossOfSignal
  dsimp only
  rw [h]

/-! ## Bad cells -/

theorem exec_badCell_aligning (h : (s.link l).state = .aligning) : exec (.badCell l) s =
    .next (s.modLink l fun x => { x with alignCount := 0, badRun := 0, boundary := x.boundary + 1 }) := by
  show execBadCell l s = _
  unfold execBadCell
  rw [h]

/-- A bad cell in UP before a run of four is counted and extends the run (R165). -/
theorem exec_badCell_up (h : (s.link l).state = .up) (hb : (s.link l).badRun.val < 3) : exec (.badCell l) s =
    .next (s.modLink l fun x => { x with alignCount := 0, badRun := x.badRun + 1, badCells := satUp x.badCells }) := by
  have hne : (s.link l).badRun ≠ 3 := fun e => absurd (congrArg Fin.val e) (Nat.ne_of_lt hb)
  show execBadCell l s = _
  unfold execBadCell badCellUp
  dsimp only
  rw [h, if_neg hne]
  exact congrArg Host.Outcome.next (modLink_modLink l _ _ s)

theorem exec_badCell_down (h : (s.link l).state = .down) : exec (.badCell l) s = .next s := by
  show execBadCell l s = _
  unfold execBadCell
  rw [h]

/-! ## Alignment -/

/-- A good cell before the 16th in a row raises the alignment count (R165). -/
theorem goodAligning_counts (h : (s.link l).alignCount.val < 15) :
    goodAligning l s = s.modLink l fun x => { x with alignCount := x.alignCount + 1, badRun := 0 } :=
  if_neg fun e => absurd (congrArg Fin.val e) (Nat.ne_of_lt h)

/-- The 16th good cell in a row brings the link UP (R164). -/
theorem goodAligning_up (h : (s.link l).alignCount.val = 15) :
    goodAligning l s = linkComesUp l (s.modLink l fun x => { x with state := .up, alignCount := 0, badRun := 0 }) :=
  if_pos (Fin.ext h)

/-- A link that comes UP changes the port behind it at most (R89, R169). -/
theorem linkComesUp_frame (l : LinkId) (s : State) : linkComesUp l s = { s with ports := (linkComesUp l s).ports } := by
  cases l <;> rfl

/-- A good cell in ALIGNING changes its link and the ports at most. -/
theorem goodAligning_frame (l : LinkId) (s : State) :
    goodAligning l s = { s with links := (goodAligning l s).links, ports := (goodAligning l s).ports } := by
  unfold goodAligning
  split
  · rw [linkComesUp_frame]
    rfl
  · rfl

/-- The links as the cell that brings link `l` UP leaves them. -/
theorem linkComesUp_link (l m : LinkId) (s : State) : (linkComesUp l s).link m = s.link m := by
  rw [linkComesUp_frame]
  rfl

theorem goodAligning_onlyLink (l : LinkId) (s : State) : OnlyLink l s (goodAligning l s) := by
  intro m hm
  unfold goodAligning
  split
  · rw [linkComesUp_link, State.modLink_link_ne _ _ _ hm]
  · rw [State.modLink_link_ne _ _ _ hm]

/-- A DETACHED consumer whose link comes UP is WAITING (R89). -/
theorem linkComesUp_port (c : ConsumerIdx) (s : State) : (linkComesUp (.consumer c) s).port c =
    { s.port c with state := if (s.port c).state = .detached then .waiting else (s.port c).state } := by
  refine (State.modPort_port_same _ _ _).trans ?_
  split <;> rfl

theorem linkComesUp_onlyPort (c : ConsumerIdx) (s : State) : OnlyPort c s (linkComesUp (.consumer c) s) :=
  fun _ hd => State.modPort_port_ne _ _ _ hd

/-! ## What each cell command does with its cell -/

/-- A cell that is passed on is a good cell first (R168). -/
theorem goodCell_of_passOn {i : Instr} {k : State → State} (h : ∀ s, exec i s = .next (passOn l k s)) :
    ∃ k, ∀ s, exec i s = .next (goodCell l k s) := ⟨_, h⟩

/-- Whatever it carries, a command that is a good or a malformed cell does what a good cell on its link does (R165). -/
theorem exec_goodCell {i : Instr} (h : cellLink i = some l) : ∃ k, ∀ s, exec i s = .next (goodCell l k s) := by
  cases i with
  | event n m ch kind datum =>
    obtain rfl := Option.some.inj h
    cases hd : datumOk kind datum with
    | true => exact ⟨_, fun _ => congrArg Host.Outcome.next (if_pos hd)⟩
    | false => exact ⟨_, fun _ => congrArg Host.Outcome.next (if_neg (Bool.not_eq_true _ ▸ hd))⟩
  | ack c tags =>
    obtain rfl := Option.some.inj h
    cases ht : tagCountOk tags with
    | true => exact ⟨_, fun _ => congrArg Host.Outcome.next (if_pos ht)⟩
    | false => exact ⟨_, fun _ => congrArg Host.Outcome.next (if_neg (Bool.not_eq_true _ ▸ ht))⟩
  | malformedCell | idle =>
    obtain rfl := Option.some.inj h
    exact ⟨_, fun _ => rfl⟩
  | nackBusy | nackReject | load | badOp | claim | release | read | write | writeDevice
  | writeSteering | writeClass | writeConsumer | swap | classEnable | classDisable | consumerEnable | consumerDisable
  | setTime | takeLog | clearCounts | freeze | restart =>
    obtain rfl := Option.some.inj h
    exact goodCell_of_passOn fun _ => rfl
  | _ => cases h

theorem exec_goodCellAligning (h : (s.link l).state = .aligning) :
    exec (.goodCellAligning l) s = .next (goodAligning l s) := by
  show execGoodCellAligning l s = _
  unfold execGoodCellAligning
  rw [h]

theorem exec_goodCellAligning_other (h : (s.link l).state ≠ .aligning) : exec (.goodCellAligning l) s = .next s := by
  show execGoodCellAligning l s = _
  unfold execGoodCellAligning
  cases hs : (s.link l).state with
  | aligning => exact absurd hs h
  | down => rfl
  | up => rfl

end

/-- Settles O5: the two branches of the release. -/
theorem releaseStartsTransmitters : Obligations.ReleaseStartsTransmitters := by
  refine fun s => ⟨fun hr => ?_, fun hr => congrArg Host.Outcome.next (if_neg (by rw [hr]; exact Bool.false_ne_true))⟩
  exact ⟨_, congrArg Host.Outcome.next (if_pos hr), rfl, fun l => Tab.nth_each _ _ _⟩

/-- Settles O7: the detector's report, and then the passage that the link's state gives. -/
theorem signalsBeforeUp : Obligations.SignalsBeforeUp := by
  refine ⟨fun l s => ?_, fun l s hup => ?_⟩
  · by_cases h : s.resetAsserted = false ∧ (s.link l).state = .down
    · have hl := beginAligning_link l (s.modLink l fun x => { x with signal := true })
      rw [State.modLink_link_same] at hl
      refine ⟨_, congrArg Host.Outcome.next (if_pos h), fun m hm => ?_, fun _ _ => ⟨rfl, ?_⟩, fun hn => ?_⟩
      · exact (modLink_onlyLink l _ _ m hm).trans (modLink_onlyLink l _ s m hm)
      · rw [hl]
      · rcases hn with hr | hd
        · exact nomatch hr.symm.trans h.1
        · exact absurd h.2 hd
    · exact ⟨_, congrArg Host.Outcome.next (if_neg h), modLink_onlyLink l _ s, fun hr hd => absurd ⟨hr, hd⟩ h,
        fun _ => ⟨rfl, State.modLink_link_same s l _⟩⟩
  · cases hs : (s.link l).state with
    | up => exact absurd hs hup
    | aligning =>
      exact ⟨_, exec_lossOfSignal_aligning hs, rfl, modLink_onlyLink l _ s, fun _ => State.modLink_link_same s l _,
        nofun⟩
    | down =>
      exact ⟨_, exec_lossOfSignal_down hs, rfl, modLink_onlyLink l _ s, nofun, fun _ => State.modLink_link_same s l _⟩

/-- Settles O8: the good cells before the 16th, the 16th, and the cells that carry something else. -/
theorem aligningCountsGoodCells : Obligations.AligningCountsGoodCells := by
  refine ⟨fun l s => ⟨fun h => ?_, exec_goodCellAligning_other⟩, fun i l s hl => ?_⟩
  · refine ⟨_, exec_goodCellAligning h, goodAligning_onlyLink l s, goodAligning_frame l s, fun hc => ?_, fun hc => ?_⟩
    · rw [goodAligning_counts hc, State.modLink_link_same]
      exact ⟨rfl, Fin.val_add_one_of_lt' (by omega), rfl⟩
    · rw [goodAligning_up hc, linkComesUp_link, State.modLink_link_same]
      refine ⟨rfl, ?_, ?_⟩
      · rintro n rfl
        rfl
      · rintro c rfl
        exact ⟨linkComesUp_onlyPort c _, linkComesUp_port c _⟩
  · obtain ⟨k, hk⟩ := exec_goodCell hl
    refine ⟨fun h => ?_, fun h => ?_⟩
    · rw [hk, goodCell_aligning h, exec_goodCellAligning h]
    · rw [hk, goodCell_down h]

/-- Settles O9: the branches of BAD_CELL but the fourth bad cell in a row. -/
theorem badCellBeforeRunOfFour : Obligations.BadCellBeforeRunOfFour := by
  refine fun l s => ⟨fun h => ?_, fun h hb => ?_, exec_badCell_down⟩
  · exact ⟨_, exec_badCell_aligning h, rfl, modLink_onlyLink l _ s, State.modLink_link_same s l _⟩
  · refine ⟨_, exec_badCell_up h hb, rfl, modLink_onlyLink l _ s, ?_, ?_⟩
    · rw [State.modLink_link_same]
      exact Fin.val_add_one_of_lt' (Nat.succ_lt_succ hb)
    · rw [State.modLink_link_same]

end Sys2Proof.Machine
end

section
/-! # The count of malformed cells, which Steering neither reads nor changes -/

namespace Sys2Proof.Machine

/-- The state with its total of malformed cells replaced. -/
def State.withTotal (m : Counter) (s : State) : State := { s with malformedTotal := m }

section

variable {m : Counter} {s : State}

/-- A test that does not read the total leaves it as its branches do. -/
theorem withTotal_ite {c d : Prop} [Decidable c] [Decidable d] {a b u v : State} (h : c ↔ d)
    (hu : u = a.withTotal m) (hv : v = b.withTotal m) :
    (if c then u else v) = (if d then a else b).withTotal m := by
  by_cases hd : d
  · rw [if_pos (h.mpr hd), if_pos hd, hu]
  · rw [if_neg fun hc => hd (h.mp hc), if_neg hd, hv]

theorem placeNotice_withTotal : placeNotice (s.withTotal m) = (placeNotice s).withTotal m := by
  refine withTotal_ite Iff.rfl rfl ?_
  rw [show (s.withTotal m).lease = s.lease from rfl]
  cases s.lease with
  | none => rfl
  | some x =>
    dsimp only
    rw [show (s.withTotal m).port x.holder = s.port x.holder from rfl]
    cases (s.port x.holder).noticeSlot <;> rfl

theorem applyHold_withTotal : applyHold (s.withTotal m) = (applyHold s).withTotal m := by
  unfold applyHold
  rw [show (s.withTotal m).hold = s.hold from rfl]
  cases s.hold with
  | released => exact withTotal_ite Iff.rfl rfl rfl
  | asserted => exact withTotal_ite Iff.rfl rfl rfl

theorem setPointer_withTotal (k : ClassIdx) (x : Arrival) (r : RecIdx) :
    setPointer k x r (s.withTotal m) = (setPointer k x r s).withTotal m := withTotal_ite Iff.rfl rfl rfl

theorem recordAbandon_withTotal (r : RecIdx) (k : ClassIdx) (why : Reason) :
    recordAbandon r k why (s.withTotal m) = (recordAbandon r k why s).withTotal m := by
  have hw : writeEntry (logEntryOf s r k why) (s.withTotal m) = (writeEntry (logEntryOf s r k why) s).withTotal m :=
    withTotal_ite Iff.rfl rfl rfl
  unfold recordAbandon
  rw [show logEntryOf (s.withTotal m) r k why = logEntryOf s r k why from rfl, hw]
  rfl

theorem overflow_withTotal (k : ClassIdx) (x : Arrival) :
    overflow k x (s.withTotal m) = (overflow k x s).withTotal m := by
  unfold overflow
  rw [show (s.withTotal m).cls k = s.cls k from rfl, show (s.withTotal m).queue k = s.queue k from rfl]
  cases (s.cls k).config.policy with
  | refuse => rfl
  | displace =>
    cases s.queue k with
    | nil => rfl
    | cons r rest =>
      dsimp only
      rw [displace_eq, recordAbandon_withTotal]
      exact setPointer_withTotal (s := refillHead k x r rest (recordAbandon r k .displaced s)) k x r

theorem storeTests_withTotal (k : ClassIdx) (x : Arrival) :
    storeTests k x (s.withTotal m) = (storeTests k x s).withTotal m := by
  unfold storeTests
  rw [show (s.withTotal m).freeList = s.freeList from rfl]
  cases s.freeList with
  | nil => exact overflow_withTotal k x
  | cons r rest =>
    refine withTotal_ite Iff.rfl ?_ (overflow_withTotal k x)
    have hh := applyHold_withTotal (m := m) (s := storeHead k x r rest s)
    exact (congrArg (setPointer k x r) hh).trans (setPointer_withTotal k x r)

theorem coalesce_withTotal (r : RecIdx) (datum : Half) (stamp : Stamp) :
    coalesce r datum stamp (s.withTotal m) = (coalesce r datum stamp s).withTotal m := by
  unfold coalesce
  rw [show (s.withTotal m).rcd r = s.rcd r from rfl]
  cases (s.rcd r).place with
  | pending => exact withTotal_ite Iff.rfl rfl rfl
  | _ => rfl

theorem levelReport_withTotal (k : ClassIdx) (x : Arrival) :
    levelReport k x (s.withTotal m) = (levelReport k x s).withTotal m := by
  unfold levelReport
  rw [show reportEntry (s.withTotal m) k x.addr (levelOf x.datum) = reportEntry s k x.addr (levelOf x.datum) from rfl]
  generalize reportEntry s k x.addr (levelOf x.datum) = out
  dsimp only
  cases verdictOf out.1 out.2 with
  | suppressed => rfl
  | coalesced r =>
    exact congrArg (fun u : State => u.modClass k fun c => { c with coalesced := satUp c.coalesced })
      (coalesce_withTotal (s := s.modLevel x.addr fun _ => out.1) r x.datum x.stamp)
  | confirmed => exact storeTests_withTotal (s := s.modLevel x.addr fun _ => out.1) k x

theorem takeClassified_withTotal (k : ClassIdx) (x : Arrival) :
    takeClassified k x (s.withTotal m) = (takeClassified k x s).withTotal m := by
  unfold takeClassified
  rw [show (s.withTotal m).cls k = s.cls k from rfl]
  cases (s.cls k).state with
  | enabled =>
    cases x.kind with
    | level => exact levelReport_withTotal k x
    | pulse => exact storeTests_withTotal k x
    | value => exact storeTests_withTotal k x
  | _ => rfl

theorem takeArrival_withTotal (x : Arrival) : takeArrival (s.withTotal m) x = (takeArrival s x).withTotal m := by
  have hs : steer x (s.withTotal m) = (steer x s).withTotal m := by
    unfold steer
    rw [show (s.withTotal m).steering = s.steering from rfl]
    cases classify s.steering x.addr x.kind with
    | none => rfl
    | some k => exact takeClassified_withTotal k x
  unfold takeArrival
  rw [hs, placeNotice_withTotal]

/-- So do several cells taken one after another. -/
theorem takeArrivals_withTotal (xs : List Arrival) :
    xs.foldl takeArrival (s.withTotal m) = (xs.foldl takeArrival s).withTotal m := by
  induction xs generalizing s with
  | nil => rfl
  | cons x xs ih => rw [List.foldl_cons, takeArrival_withTotal, ih, List.foldl_cons]

end

end Sys2Proof.Machine
end

section
/-! # Cells that end at the link, and EVENTs that Steering has not yet taken: O13 -/

namespace Sys2Proof.Machine

section

variable {n : Fin 4} {s : State}

/-! ## Taking the cells that wait -/

/-- Taking the cells that wait changes what Steering and Admission may change, and none waits then. -/
theorem catchUp_steered (n : Fin 4) (s : State) : Steered { s with handed := Tab.put s.handed n [] } (catchUp n s) := by
  rw [catchUp_eq]
  exact steered_takeArrivals _ _

theorem catchUp_handed (n : Fin 4) (s : State) : (catchUp n s).handed = Tab.put s.handed n [] := by
  rw [(catchUp_steered n s).frame]

theorem catchUp_links (n : Fin 4) (s : State) : (catchUp n s).links = s.links := by
  rw [(catchUp_steered n s).frame]

theorem catchUp_link (n : Fin 4) (s : State) (l : LinkId) : (catchUp n s).link l = s.link l :=
  congrArg (fun L => Tab.nth L (linkIndex l)) (catchUp_links n s)

theorem catchUp_restart (n : Fin 4) (s : State) : (catchUp n s).restart = s.restart := by
  rw [(catchUp_steered n s).frame]

theorem catchUp_timebase (n : Fin 4) (s : State) : (catchUp n s).timebase = s.timebase := by
  rw [(catchUp_steered n s).frame]

theorem catchUp_late (n : Fin 4) (s : State) : (catchUp n s).late = s.late := by
  rw [(catchUp_steered n s).frame]

theorem catchUp_malformedTotal (n : Fin 4) (s : State) : (catchUp n s).malformedTotal = s.malformedTotal := by
  rw [(catchUp_steered n s).frame]

theorem catchUp_none_waits (n : Fin 4) (s : State) : Tab.nth (catchUp n s).handed n = [] := by
  rw [catchUp_handed, Tab.nth_put_same]

/-- The links, the sender's choices and the total of malformed cells may change before or after the cells that wait are
taken. -/
theorem catchUp_apart (n : Fin 4) (s : State) (L : Tab Link 10) (lt : List Bool) (m : Counter) :
    catchUp n { s with links := L, late := lt, malformedTotal := m } =
      { catchUp n s with links := L, late := lt, malformedTotal := m } := by
  have hf := (catchUp_steered n s).frame
  have ha := takeArrivals_aside L (Tab.put s.handed n []) lt s.turns s.freeDraws
    { s with handed := Tab.put s.handed n [] } (Tab.nth s.handed n)
  rw [← catchUp_eq] at ha
  rw [catchUp_eq]
  refine (takeArrivals_withTotal (m := m)
    (s := s.aside L (Tab.put s.handed n []) lt s.turns s.freeDraws) _).trans ((congrArg (State.withTotal m) ha).trans ?_)
  rw [hf]
  rfl

/-! ## Cells that end at their link -/

/-- A cell of source link `n` that changes the link, the sender's choices and the total of malformed cells finds the cells
that wait taken first. -/
theorem catchUp_modLink (n : Fin 4) (f : Link → Link) (lt : List Bool) (m : Counter) (s : State) :
    catchUp n { s.modLink (.source n) f with late := lt, malformedTotal := m } =
      { (catchUp n s).modLink (.source n) f with late := lt, malformedTotal := m } := by
  refine (catchUp_apart n s (Tab.upd s.links (linkIndex (.source n)) f) lt m).trans ?_
  rw [← catchUp_links n s]
  rfl

/-- An IDLE cell on an UP link is heard, and Steering is done with the cells of the link before it (R168). -/
theorem exec_idle {l : LinkId} (h : (s.link l).state = .up) :
    exec (.idle l) s = .next (settle l (s.modLink l Link.heard)) :=
  congrArg Host.Outcome.next (goodCell_up h _)

/-- The link that has heard a malformed cell has counted it (R167, R171). -/
def Link.counted (x : Link) : Link := { x.heard with malformed := satUp x.malformed }

theorem exec_malformedCell {l : LinkId} (h : (s.link l).state = .up) : exec (.malformedCell l) s =
    .next (settle l { s.modLink l Link.counted with malformedTotal := satUp s.malformedTotal }) := by
  refine congrArg Host.Outcome.next ((goodCell_up h _).trans ?_)
  rw [modLink_modLink]
  rfl

theorem exec_idle_source (h : (s.link (.source n)).state = .up) :
    exec (.idle (.source n)) s = .next ((catchUp n s).modLink (.source n) Link.heard) := by
  rw [exec_idle h]
  refine congrArg Host.Outcome.next ((catchUp_modLink n Link.heard s.late s.malformedTotal s).trans ?_)
  rw [← catchUp_late n s, ← catchUp_malformedTotal n s]
  rfl

theorem exec_malformedCell_source (h : (s.link (.source n)).state = .up) : exec (.malformedCell (.source n)) s =
    .next { (catchUp n s).modLink (.source n) Link.counted with malformedTotal := satUp s.malformedTotal } := by
  rw [exec_malformedCell h]
  refine congrArg Host.Outcome.next ((catchUp_modLink n Link.counted s.late (satUp s.malformedTotal) s).trans ?_)
  rw [← catchUp_late n s]
  rfl

/-- A field out of its range makes an EVENT a malformed cell (R167). -/
theorem exec_event_outOfRange (n : Fin 4) (m : Fin 16) (ch : Fin 64) {k : Kind} {d : Half} (h : datumOk k d = false)
    (s : State) : exec (.event n m ch k d) s = exec (.malformedCell (.source n)) s :=
  congrArg Host.Outcome.next (if_neg (Bool.eq_false_iff.mp h))

theorem exec_ack_outOfRange (c : Fin 6) {tags : List Tag} (h : tagCountOk tags = false) (s : State) :
    exec (.ack c tags) s = exec (.malformedCell (.consumer c)) s :=
  congrArg Host.Outcome.next (if_neg (Bool.eq_false_iff.mp h))

theorem datumOk_outOfRange {k : Kind} {d : Half}
    (h : (k = .pulse ∧ (d.toNat = 0 ∨ 255 < d.toNat)) ∨ (k = .level ∧ 1 < d.toNat)) : datumOk k d = false := by
  rcases h with ⟨rfl, hd⟩ | ⟨rfl, hd⟩
  · simp only [datumOk, Bool.and_eq_false_iff, decide_eq_false_iff_not]
    omega
  · simp only [datumOk, decide_eq_false_iff_not]
    omega

theorem tagCountOk_outOfRange {tags : List Tag} (h : tags.length = 0 ∨ 4 < tags.length) : tagCountOk tags = false := by
  rw [Bool.eq_false_iff, ne_eq, tagCountOk_iff]
  omega

/-! ## EVENTs that Steering takes -/

variable {x : Arrival}

/-- An EVENT that Steering takes as it ends finds the cells of its link that wait taken before it (R168). -/
theorem exec_taken (hu : (s.link (.source x.addr.link)).state = .up) (hr : s.restart = none)
    (hd : datumOk x.kind x.datum = true) (hl : s.late.headD false = false) :
    exec x.command s =
      .next (takeArrival
        { (catchUp x.addr.link s).modLink (.source x.addr.link) Link.heard with late := s.late.tail }
        { x with stamp := s.timebase }) := by
  have hc := catchUp_modLink x.addr.link Link.heard s.late.tail s.malformedTotal s
  have hm := catchUp_malformedTotal x.addr.link s
  have hp : passEvent { x with stamp := s.timebase } (s.modLink (.source x.addr.link) Link.heard) =
      takeArrival (catchUp x.addr.link { s.modLink (.source x.addr.link) Link.heard with late := s.late.tail })
        { x with stamp := s.timebase } := if_neg (Bool.eq_false_iff.mp hl)
  refine congrArg Host.Outcome.next ((if_pos hd).trans ((passOn_up hu hr _).trans (hp.trans ?_)))
  refine congrArg (fun u => takeArrival u { x with stamp := s.timebase }) (hc.trans ?_)
  rw [← hm]
  rfl

/-- Taken as it ends with none waiting before it, an EVENT does what taking its cell does: the link has heard it besides,
and the sender's choice is used up. -/
theorem exec_takes (hp : Passing s (.source x.addr.link)) (hd : datumOk x.kind x.datum = true)
    (hs : x.stamp = s.timebase) :
    ∃ t, exec x.command s = .next t ∧ takeArrival s x = { t with links := s.links, late := s.late } := by
  have hx : ({ x with stamp := s.timebase } : Arrival) = x := by rw [← hs]
  have hf := (steered_takeArrival s x).frame
  have ha := takeArrival_aside (s.modLink (.source x.addr.link) Link.heard).links s.handed s.late.tail s.turns
    s.freeDraws s x
  refine ⟨_, exec_taken hp.up hp.noRestart hd (hp.atOnce _ rfl), ?_⟩
  rw [hx, catchUp_nil (hp.caughtUp _ rfl)]
  refine Eq.trans ?_ (congrArg (fun t : State => { t with links := s.links, late := s.late }) ha.symm)
  generalize takeArrival s x = t at hf ⊢
  rw [hf]
  rfl

/-- A PULSE or VALUE cell of an ENABLED class with room is allocated the head of the free list (R7, R43). -/
theorem takeArrival_allocates {k : ClassIdx} {r : RecIdx} {rest : List RecIdx} (hx : x.kind ≠ .level)
    (hr : RoutedTo s x.addr x.kind k) (he : (s.cls k).state = .enabled) (hf : s.freeList = r :: rest)
    (hroom : s.holding k < (s.cls k).config.pendingLimit.val) :
    (takeArrival s x).rcd r = fillRecord (s.rcd r).generation k x := by
  have hs : steer x s = storeTests k x s := by
    rw [steer_routed hr]
    unfold takeClassified
    rw [he]
    cases hk : x.kind with
    | level => exact absurd hk hx
    | pulse => rfl
    | value => rfl
  have hA : storeTests k x s = allocate k x r rest s := by
    unfold storeTests
    rw [hf]
    exact if_pos hroom
  unfold takeArrival
  rw [placeNotice_rcd, hs, hA, allocate_fields]
  exact (storeHead_rcd r).trans (if_pos rfl)

end

/-- Settles O13: the cells that end at the link, and the state in which each cell meets Steering. -/
theorem cellsThatEndAtLink : Obligations.CellsThatEndAtLink := by
  refine ⟨fun l s hu hc => ⟨?_, ?_⟩, fun s => ⟨?_, ?_⟩, fun x s hu hd hr => ⟨fun hl => ?_, fun hl => ?_⟩,
    fun n s hu => ⟨?_, ?_⟩, catchUp_eq, fun _ _ => exec_takes, ?_⟩
  · have hm := exec_malformedCell hu
    rw [settle_caughtUp (s := { s.modLink l Link.counted with malformedTotal := satUp s.malformedTotal }) hc] at hm
    exact ⟨_, hm, rfl, modLink_onlyLink l Link.counted s, State.modLink_link_same s l Link.counted⟩
  · have hi := exec_idle hu
    rw [settle_caughtUp (s := s.modLink l Link.heard) hc] at hi
    exact ⟨_, hi, rfl, State.modLink_link_same s l Link.heard, modLink_onlyLink l Link.heard s⟩
  · exact fun n m ch k d h => exec_event_outOfRange n m ch (datumOk_outOfRange h) s
  · exact fun c tags h => exec_ack_outOfRange c (tagCountOk_outOfRange h) s
  · exact ⟨_, exec_late hu hr hd hl, rfl, ⟨State.modLink_link_same s _ _, modLink_onlyLink _ _ s⟩,
      fun n => Tab.nth_upd s.handed _ n _⟩
  · rw [exec_taken hu hr hd hl, exec_taken ((catchUp_link _ s _).symm ▸ hu) ((catchUp_restart _ s).trans hr) hd
      ((catchUp_late _ s).symm ▸ hl), catchUp_nil (catchUp_none_waits _ s), catchUp_late, catchUp_timebase]
  · rw [exec_malformedCell_source hu, exec_malformedCell_source ((catchUp_link n s _).symm ▸ hu),
      catchUp_nil (catchUp_none_waits n s), catchUp_malformedTotal]
  · rw [exec_idle_source hu, exec_idle_source ((catchUp_link n s _).symm ▸ hu), catchUp_nil (catchUp_none_waits n s)]
  · intro x k r rest s hu hw hx hr he hf hroom
    refine ⟨_, exec_idle_source hu, ?_⟩
    rw [catchUp_eq, hw]
    exact takeArrival_allocates (s := { s with handed := _ }) hx hr he hf hroom

end Sys2Proof.Machine
end

section
/-! # Received cells: O52 -/

namespace Sys2Proof.Machine

/-! ## The CRC-8 and the symbols of a cell -/

/-- A cell that a transmitter sends passes the receiver's check (R166). -/
theorem withCrc_good (x : Cell) : x.withCrc.good = true := beq_self_eq_true (crc8 x.body)

/-- A cell whose octet 15 is not the CRC-8 of the octets before it is a bad cell (R165, R166). -/
theorem decodeCell_bad {x : Cell} (l : LinkId) (h : x.o15 ≠ crc8 x.body) : decodeCell l x = .badCell l :=
  if_neg fun hg => h (beq_iff_eq.mp hg).symm

theorem symbolsCell_symbols (x : Cell) : symbolsCell x.symbols = some x := rfl

theorem decodeSymbols_symbols (l : LinkId) (x : Cell) : decodeSymbols l x.symbols = decodeCell l x := rfl

/-- A cell is read only where every symbol decodes to an octet (R165). -/
theorem symbolsCell_isSome {x : Tab (Option Byte) 16} {c : Cell} (h : symbolsCell x = some c) (i : Fin 16) :
    Tab.nth x i ≠ none := by
  unfold symbolsCell at h
  split at h
  · fin_cases i <;> simp_all
  · cases h

theorem decodeSymbols_none {x : Tab (Option Byte) 16} (l : LinkId) {i : Fin 16} (h : Tab.nth x i = none) :
    decodeSymbols l x = .badCell l := by
  unfold decodeSymbols
  cases hc : symbolsCell x with
  | none => rfl
  | some c => exact absurd h (symbolsCell_isSome hc i)

/-! ## Fields -/

theorem finOf_ofNat {n : Nat} (i : Fin n) (h : n ≤ 256) : finOf n (BitVec.ofNat 8 i.val) = some i :=
  finOf_eq_some.mpr (octet_toNat (by omega))

theorem kindOf_kindCode (k : Kind) : kindOf (kindCode k) = some k := by
  cases k <;> rfl

theorem tagCode_toNat (t : Tag) : (tagCode t).toNat = t.generation.val * 512 + t.index.val :=
  half_toNat (by omega)

/-- A tag is read back from its number (R172). -/
theorem tagOf_tagCode (t : Tag) : tagOf (tagCode t) = some t := by
  have h := tagCode_toNat t
  have hi : (tagCode t).toNat % 512 = t.index.val := by omega
  have hg : (tagCode t).toNat / 512 = t.generation.val := by omega
  unfold tagOf
  rw [dif_pos (by omega)]
  exact congrArg some ((Tag.mk.injEq ..).mpr ⟨Fin.ext hi, Fin.ext hg⟩)

theorem tagsOf_map_tagCode (ts : List Tag) : tagsOf (ts.map tagCode) = some ts := by
  induction ts with
  | nil => rfl
  | cons t ts ih =>
    rw [List.map_cons, tagsOf, tagOf_tagCode, ih]
    rfl

/-- The tag fields that an ACK uses are its tags in cell order (R120). -/
theorem take_tagFields : ∀ {ts : List Tag}, ts.length ≤ 4 →
    [tagField ts 0, tagField ts 1, tagField ts 2, tagField ts 3].take ts.length = ts.map tagCode
  | [], _ | [_], _ | [_, _], _ | [_, _, _], _ | [_, _, _, _], _ => rfl
  | _ :: _ :: _ :: _ :: _ :: ts, h => absurd h (by simp only [List.length_cons]; omega)

/-! ## The cell of each type is read as its type -/

section

variable {n : Fin 6} {x : Cell}

theorem decodeCell_event (k : Fin 4) (h : x.o0 = 0x11#8) : decodeCell (.source k) x.withCrc = decodeEvent k x := by
  refine (if_pos (withCrc_good x)).trans ?_
  show (if x.o0 = 0x00#8 then _ else if x.o0 = 0x11#8 then _ else _) = _
  rw [h]
  rfl

theorem decodeCell_idle (l : LinkId) : decodeCell l (Cell.blank 0x00#8).withCrc = .idle l := by
  refine (if_pos (withCrc_good _)).trans ?_
  cases l <;> rfl

theorem decodeCell_consumer (x : Cell) : decodeCell (.consumer n) x.withCrc =
    if x.o0 = 0x00#8 then .idle (.consumer n)
    else if x.o0 = 0x31#8 then decodeAck n x
    else if x.o0 = 0x32#8 then decodeNack n x
    else if x.o0 = 0x33#8 then decodeLoad n x
    else if x.o0 = 0x34#8 then decodeRequest n x
    else .malformedCell (.consumer n) :=
  if_pos (withCrc_good x)

theorem decodeCell_ack (h : x.o0 = 0x31#8) : decodeCell (.consumer n) x.withCrc = decodeAck n x := by
  rw [decodeCell_consumer, h]
  rfl

theorem decodeCell_nack (h : x.o0 = 0x32#8) : decodeCell (.consumer n) x.withCrc = decodeNack n x := by
  rw [decodeCell_consumer, h]
  rfl

theorem decodeCell_load (h : x.o0 = 0x33#8) : decodeCell (.consumer n) x.withCrc = decodeLoad n x := by
  rw [decodeCell_consumer, h]
  rfl

theorem decodeCell_requestCell (seq op table : Byte) (index : Half) (page : Byte) (d : Page) :
    decodeCell (.consumer n) (requestCell seq op table index page d) =
      decodeRequest n (requestCell seq op table index page d) :=
  decodeCell_consumer _

/-! ## The fields of each type are read back -/

theorem decodeEvent_fields {k : Fin 4} {m : Fin 16} {ch : Fin 64} {kind : Kind} {d : Half}
    (hm : finOf 16 x.o1 = some m) (hc : finOf 64 x.o2 = some ch) (hk : kindOf x.o3 = some kind)
    (hd : be16 x.o4 x.o5 = d) (ho : datumOk kind d = true) :
    decodeEvent k x = .event k m ch kind d := by
  unfold decodeEvent
  rw [hm, hc, hk, hd]
  exact if_pos ho

theorem decodeAck_fields {ts : List Tag} (h : 1 ≤ ts.length ∧ ts.length ≤ 4) (h1 : x.o1.toNat = ts.length)
    (ht : [be16 x.o2 x.o3, be16 x.o4 x.o5, be16 x.o6 x.o7, be16 x.o8 x.o9] =
      [tagField ts 0, tagField ts 1, tagField ts 2, tagField ts 3]) : decodeAck n x = .ack n ts := by
  unfold decodeAck
  rw [h1, if_pos h, ht, take_tagFields h.2, tagsOf_map_tagCode]

theorem decodeNack_busy {t : Tag} (ht : be16 x.o1 x.o2 = tagCode t) (hr : x.o3 = 0x01#8) :
    decodeNack n x = .nackBusy n t := by
  unfold decodeNack
  rw [ht, tagOf_tagCode, hr]
  rfl

theorem decodeNack_reject {t : Tag} (ht : be16 x.o1 x.o2 = tagCode t) (hr : x.o3 = 0x02#8) :
    decodeNack n x = .nackReject n t := by
  unfold decodeNack
  rw [ht, tagOf_tagCode, hr]
  rfl

theorem decodeLoad_fields {level : Fin 16} (h : finOf 16 x.o1 = some level) : decodeLoad n x = .load n level := by
  unfold decodeLoad
  rw [h]

/-- An op that names no operation is read as BAD_OP (R149). -/
theorem decodeRequest_badOp (h : opNamed x.o2 = false) : decodeRequest n x = .badOp n x.o1 x.o2 := by
  have hne : ∀ op, opNamed op = true → (x.o2 = op) = False := fun op ho =>
    eq_false fun e => Bool.false_ne_true (h.symm.trans (e ▸ ho))
  unfold decodeRequest
  simp (disch := decide) only [hne, if_false]

/-- A WRITE of a table that no WRITE may change is read as the plain WRITE (R155). -/
theorem decodeWrite_plain (h : tableWritable x.o3 = false) :
    decodeWrite n x = .write n x.o1 x.o3 (be16 x.o4 x.o5) x.o6 (requestData x) := by
  have hne : ∀ table, tableWritable table = true → (x.o3 = table) = False := fun table ht =>
    eq_false fun e => Bool.false_ne_true (h.symm.trans (e ▸ ht))
  unfold decodeWrite
  simp (disch := decide) only [hne, if_false]

end

/-- Every well-formed command that is a cell is read from its cell. -/
theorem decodeCell_encodeCell {i : Instr} {l : LinkId} {x : Cell} (hw : wellFormed i = true)
    (h : encodeCell i = some (l, x)) : decodeCell l x = i := by
  cases i with
  | idle l =>
    obtain ⟨rfl, rfl⟩ := Prod.mk.inj (Option.some.inj h)
    exact decodeCell_idle _
  | event n m ch kind d =>
    obtain ⟨rfl, rfl⟩ := Prod.mk.inj (Option.some.inj h)
    exact (decodeCell_event n rfl).trans (decodeEvent_fields (finOf_ofNat m (by decide)) (finOf_ofNat ch (by decide))
      (kindOf_kindCode kind) (be16_octets d) hw)
  | ack n ts =>
    obtain ⟨rfl, rfl⟩ := Prod.mk.inj (Option.some.inj h)
    have hl := tagCountOk_iff.mp hw
    refine (decodeCell_ack rfl).trans (decodeAck_fields hl (octet_toNat (by omega)) ?_)
    simp only [be16_octets]
  | nackBusy n t =>
    obtain ⟨rfl, rfl⟩ := Prod.mk.inj (Option.some.inj h)
    exact (decodeCell_nack rfl).trans (decodeNack_busy (be16_octets _) rfl)
  | nackReject n t =>
    obtain ⟨rfl, rfl⟩ := Prod.mk.inj (Option.some.inj h)
    exact (decodeCell_nack rfl).trans (decodeNack_reject (be16_octets _) rfl)
  | load n level =>
    obtain ⟨rfl, rfl⟩ := Prod.mk.inj (Option.some.inj h)
    exact (decodeCell_load rfl).trans (decodeLoad_fields (finOf_ofNat level (by decide)))
  | badOp n seq op =>
    obtain ⟨rfl, rfl⟩ := Prod.mk.inj (Option.some.inj h)
    exact (decodeCell_requestCell ..).trans (decodeRequest_badOp (Bool.not_eq_true' _ ▸ hw))
  | write n seq table index page image =>
    obtain ⟨rfl, rfl⟩ := Prod.mk.inj (Option.some.inj h)
    refine (decodeCell_requestCell ..).trans ((decodeWrite_plain (Bool.not_eq_true' _ ▸ hw)).trans ?_)
    exact congrArg (fun i => Instr.write n seq table i page image) (be16_octets index)
  | claim | release | swap | clearCounts | freeze | restart =>
    obtain ⟨rfl, rfl⟩ := Prod.mk.inj (Option.some.inj h)
    exact decodeCell_requestCell ..
  | read | writeDevice | writeClass | writeConsumer | classEnable | classDisable | consumerEnable | consumerDisable
  | setTime | takeLog =>
    obtain ⟨rfl, rfl⟩ := Prod.mk.inj (Option.some.inj h)
    refine (decodeCell_requestCell ..).trans ?_
    simp [decodeRequest, decodeWrite, requestData, requestCell, Cell.withCrc, be16_octets, be32_octets]
  | writeSteering n seq bank index page image =>
    obtain ⟨rfl, rfl⟩ := Prod.mk.inj (Option.some.inj h)
    refine (decodeCell_requestCell ..).trans ?_
    cases bank <;> simp [decodeRequest, decodeWrite, requestData, requestCell, Cell.withCrc, be16_octets, bankTable]
  | _ => cases h

/-- Settles O52: each command is read back from its cell, and what is no cell with its CRC-8 is a bad cell. -/
theorem cellsDecodeToTheirCommands : Obligations.CellsDecodeToTheirCommands := by
  refine ⟨fun i l x hw h => ?_, decodeSymbols_symbols, fun l x ⟨i, hi⟩ => decodeSymbols_none l hi,
    fun l x => decodeCell_bad l⟩
  have hd := decodeCell_encodeCell hw h
  exact ⟨hd, (decodeSymbols_symbols l x).trans hd⟩

end Sys2Proof.Machine
end

section
/-! # Sent cells: O53 -/

namespace Sys2Proof.Machine

/-! ## The CRC-8 as a remainder (R166) -/

/-- Two polynomials over two elements, as numbers, leave the same remainder by x^8 + x^2 + x + 1. -/
def SameRemainder (a b : Nat) : Prop := ∃ q, a = timesGenerator q ^^^ b

theorem timesGenerator_xor (p q : Nat) : timesGenerator (p ^^^ q) = timesGenerator p ^^^ timesGenerator q := by
  simp only [timesGenerator, Nat.shiftLeft_xor_distrib]
  ac_rfl

theorem timesGenerator_shiftLeft (q k : Nat) : timesGenerator q <<< k = timesGenerator (q <<< k) := by
  simp only [timesGenerator, Nat.shiftLeft_xor_distrib, ← Nat.shiftLeft_add, Nat.add_comm k]

theorem SameRemainder.refl (a : Nat) : SameRemainder a a := ⟨0, (Nat.zero_xor a).symm⟩

theorem SameRemainder.trans {a b c : Nat} (h : SameRemainder a b) (g : SameRemainder b c) : SameRemainder a c := by
  obtain ⟨p, rfl⟩ := h
  obtain ⟨q, rfl⟩ := g
  exact ⟨p ^^^ q, by rw [timesGenerator_xor, Nat.xor_assoc]⟩

theorem SameRemainder.shiftLeft {a b : Nat} (h : SameRemainder a b) (k : Nat) : SameRemainder (a <<< k) (b <<< k) := by
  obtain ⟨q, rfl⟩ := h
  exact ⟨q <<< k, by rw [Nat.shiftLeft_xor_distrib, timesGenerator_shiftLeft]⟩

theorem SameRemainder.xor {a b : Nat} (h : SameRemainder a b) (c : Nat) : SameRemainder (a ^^^ c) (b ^^^ c) := by
  obtain ⟨q, rfl⟩ := h
  exact ⟨q, Nat.xor_assoc _ _ _⟩

/-- One bit through the register is a multiplication by x, reduced by the generator where the product has a term x^8. -/
theorem crcBit_toNat : ∀ r : Byte, r.toNat <<< 1 = timesGenerator r.msb.toNat ^^^ (crcBit r).toNat := by
  decide

theorem sameRemainder_crcBit (r : Byte) : SameRemainder (r.toNat <<< 1) (crcBit r).toNat := ⟨_, crcBit_toNat r⟩

theorem SameRemainder.crcBit {a : Nat} {r : Byte} (h : SameRemainder a r.toNat) :
    SameRemainder (a <<< 1) (crcBit r).toNat := (h.shiftLeft 1).trans (sameRemainder_crcBit r)

/-- An octet through the register is added to it, and the sum multiplied by x^8. -/
theorem sameRemainder_crcOctet (r d : Byte) : SameRemainder ((r.toNat ^^^ d.toNat) <<< 8) (crcOctet r d).toNat := by
  rw [← BitVec.toNat_xor]
  exact (SameRemainder.refl (r ^^^ d).toNat).crcBit.crcBit.crcBit.crcBit.crcBit.crcBit.crcBit.crcBit

theorem octetsNumber_concat (octets : List Byte) (d : Byte) :
    octetsNumber (octets ++ [d]) = octetsNumber octets <<< 8 ^^^ d.toNat := by
  simp [octetsNumber]

theorem crc8_concat (octets : List Byte) (d : Byte) : crc8 (octets ++ [d]) = crcOctet (crc8 octets) d := by
  simp [crc8]

/-- The register after some octets is the remainder of their polynomial, its start added at the head (R166). -/
theorem sameRemainder_crc8 (octets : List Byte) :
    SameRemainder ((255 <<< (8 * octets.length)) ^^^ (octetsNumber octets <<< 8)) (crc8 octets).toNat := by
  induction octets using List.reverseRecOn with
  | nil => exact SameRemainder.refl 255
  | append_singleton octets d ih =>
    have hn : (255 <<< (8 * (octets ++ [d]).length)) ^^^ (octetsNumber (octets ++ [d]) <<< 8) =
        ((255 <<< (8 * octets.length)) ^^^ (octetsNumber octets <<< 8) ^^^ d.toNat) <<< 8 := by
      simp only [List.length_append, List.length_singleton, octetsNumber_concat, Nat.shiftLeft_xor_distrib,
        ← Nat.shiftLeft_add, Nat.mul_add, Nat.mul_one, Nat.xor_assoc]
    rw [hn, crc8_concat]
    exact ((ih.xor d.toNat).shiftLeft 8).trans (sameRemainder_crcOctet _ d)

/-! ## The cells -/

/-- Every cell is sent with its CRC-8 (R166). -/
theorem outCell_withCrc (x : OutCell) : ∃ y : Cell, x.cell = y.withCrc := by
  cases x <;> exact ⟨_, rfl⟩

/-- The cell of a DELIVER carries the record's fields (section 11.8). -/
theorem deliverCell_carries (d : Deliver) (x : Cell) (h : x = (OutCell.deliver d).cell) :
    x.o0 = 0x21#8 ∧ (be16 x.o1 x.o2).toNat = d.tag.generation.val * 512 + d.tag.index.val ∧
      x.o3.toNat = d.delivery.toNat ∧ x.o4.toNat = d.cls.val ∧
      (be16 x.o5 x.o6).toNat = d.addr.link.val * 1024 + d.addr.module.val * 64 + d.addr.channel.val ∧
      x.o7 = (match d.kind with | .pulse => 1 | .level => 2 | .value => 3) ∧ be16 x.o8 x.o9 = d.datum ∧
      be32 x.o10 x.o11 x.o12 x.o13 = d.stamp ∧ x.o14 = d.superseded := by
  subst h
  refine ⟨rfl, ?_, setWidth_toNat _ (by decide), octet_toNat (by omega), ?_, ?_, be16_octets _, be32_octets _, rfl⟩
  · exact (congrArg BitVec.toNat (be16_octets _)).trans (half_toNat (by omega))
  · exact (congrArg BitVec.toNat (be16_octets _)).trans (half_toNat (levelIndex_lt d.addr))
  · show kindCode d.kind = _
    cases d.kind <;> rfl

theorem statusCode_eq (x : Status) : x.code =
    (match x with
      | .ok => 0 | .held => 1 | .notHolder => 2 | .badOp => 3 | .badTable => 4 | .badIndex => 5 | .badValue => 6
      | .readOnly => 7 | .inUse => 8 | .bankActive => 9 | .frozen => 10 | .empty => 11) := by
  cases x <;> rfl

/-- Settles O53: the CRC-8 octet by octet, and then each cell field by field. -/
theorem sentCellsCarryState : Obligations.SentCellsCarryState := by
  refine ⟨sameRemainder_crc8, fun x => ?_, fun x o h => ?_, deliverCell_carries, ?_, ?_⟩
  · obtain ⟨y, hy⟩ := outCell_withCrc x
    rw [hy]
    exact ⟨rfl, withCrc_good y⟩
  · simp only [List.mem_cons, Prod.mk.injEq, List.not_mem_nil, or_false] at h
    rcases h with ⟨rfl, rfl⟩ | ⟨rfl, rfl⟩ | ⟨rfl, rfl⟩ <;> rfl
  · rintro r x rfl
    exact ⟨rfl, rfl, statusCode_eq r.status, rfl, rfl, rfl, rfl, rfl⟩
  · rintro n x rfl ho
    exact ⟨rfl, rfl, octet_toNat (by omega), setOctet_toNat _ (by decide), be32_octets n.idle, rfl, rfl, rfl, rfl, rfl,
      rfl, rfl⟩

end Sys2Proof.Machine
end

section
/-! # The queue of commands: O1 and O2

A step takes the command at the front of the queue, and after that nothing that a command does reads or changes the queue: one
lemma for each operation that the commands share, and then one for each command (logs 1, 9 and 11). -/

namespace Sys2Proof.Machine

section

variable (s : State)

/-! ## The shared rules and the claims on the store -/

@[simp] theorem pending_placeNotice : (placeNotice s).pending = s.pending := by rw [placeNotice_frame]

@[simp] theorem pending_applyHold : (applyHold s).pending = s.pending := by rw [applyHold_frame]

@[simp] theorem pending_drainCheck (k : ClassIdx) : (drainCheck k s).pending = s.pending := by rw [drainCheck_frame]

@[simp] theorem pending_renewLease (c : ConsumerIdx) : (renewLease c s).pending = s.pending := by rw [renewLease_frame]

@[simp] theorem pending_freeLeaseOf (c : ConsumerIdx) : (freeLeaseOf c s).pending = s.pending := by rw [freeLeaseOf_frame]

@[simp] theorem pending_freeRecord (r : RecIdx) : (freeRecord r s).pending = s.pending := by rw [freeRecord_frame]

@[simp] theorem pending_abandon (r : RecIdx) (why : Reason) : (abandon r why s).pending = s.pending := by
  rw [abandon_frame]

@[simp] theorem pending_abandonAll (rs : List RecIdx) (why : Reason) : (abandonAll rs why s).pending = s.pending := by
  rw [abandonAll_frame]

@[simp] theorem pending_returnRecord (r : RecIdx) : (returnRecord r s).pending = s.pending := by rw [returnRecord_frame]

@[simp] theorem pending_failureDecision (k : ClassIdx) (r : RecIdx) : (failureDecision k r s).pending = s.pending := by
  rcases failureDecision_cases k r s with ⟨-, e⟩ | ⟨-, -, e⟩ | ⟨-, -, e⟩ <;> rw [e]
  · exact pending_abandon s r .purged
  · exact pending_abandon s r .exhausted
  · exact pending_returnRecord s r

/-- A failure, its charge and its consumer's counters made first. -/
theorem pending_failure (c : ConsumerIdx) (k : ClassIdx) (r : RecIdx) (f : Port → Port) :
    (failureDecision k r (chargeFailure c r (s.modPort c f))).pending = s.pending :=
  pending_failureDecision _ k r

@[simp] theorem pending_suspectCheck (c : ConsumerIdx) : (suspectCheck c s).pending = s.pending := by
  unfold suspectCheck
  split <;> rfl

/-- Steps taken one after another. -/
theorem pending_foldl {α : Type} {f : State → α → State} (hf : ∀ u a, (f u a).pending = u.pending) (as : List α) :
    (as.foldl f s).pending = s.pending :=
  List.foldlRecOn (motive := fun u => u.pending = s.pending) as f rfl fun u hu a _ => (hf u a).trans hu

@[simp] theorem pending_returnAll (c : ConsumerIdx) : (returnAll c s).pending = s.pending := by
  have hp : ((purgedOf s c).foldl (fun t r => abandon r .purged (markTried c r t)) s).pending = s.pending :=
    pending_foldl s (fun u r => pending_abandon (markTried c r u) r .purged) _
  exact List.foldrRecOn (motive := fun u => u.pending = s.pending) (returnedOf s c) (fun r t => returnRecord r t) hp
    fun u hu r _ => (pending_returnRecord u r).trans hu

@[simp] theorem pending_closeClass (k : ClassIdx) (purge : Bool) : (closeClass k purge s).pending = s.pending := by
  unfold closeClass
  cases purge <;> simp

/-! ## Steering -/

theorem Steered.pending {s t : State} (h : Steered s t) : t.pending = s.pending := by rw [h.frame]

@[simp] theorem pending_catchUp (n : Fin 4) : (catchUp n s).pending = s.pending := by
  rw [catchUp_eq]
  exact (steered_takeArrivals _ _).pending

@[simp] theorem pending_catchUpAll : (catchUpAll s).pending = s.pending := (steered_takeArrivals _ _).pending

@[simp] theorem pending_settle (l : LinkId) : (settle l s).pending = s.pending := by
  cases l with
  | source n => exact pending_catchUp s n
  | consumer c => rfl

@[simp] theorem pending_passEvent (x : Arrival) : (passEvent x s).pending = s.pending := by
  unfold passEvent
  dsimp only
  split
  · rfl
  · exact (steered_takeArrival _ x).pending.trans (pending_catchUp _ _)

/-! ## Links and received cells -/

@[simp] theorem pending_goodAligning (l : LinkId) : (goodAligning l s).pending = s.pending := by rw [goodAligning_frame]

@[simp] theorem pending_linkLeavesUp (l : LinkId) : (linkLeavesUp l s).pending = s.pending := by
  cases l with
  | source n => exact pending_catchUp _ n
  | consumer c => simp [linkLeavesUp, portLoss]

@[simp] theorem pending_badCellUp (l : LinkId) : (badCellUp l s).pending = s.pending := by
  have hd (v : State) : (linkLeavesUp l (goDown l v)).pending = v.pending := pending_linkLeavesUp _ l
  unfold badCellUp
  dsimp only
  split
  · split
    · exact hd _
    · exact hd _
  · rfl

variable {l : LinkId} {k : State → State}

/-- A good cell leaves the queue if the block that it goes on to does. -/
theorem pending_goodCell (hk : ∀ u, (k u).pending = u.pending) : (goodCell l k s).pending = s.pending := by
  unfold goodCell
  split
  · rfl
  · exact pending_goodAligning s l
  · exact hk _

theorem pending_passOn (hk : ∀ u, (k u).pending = u.pending) : (passOn l k s).pending = s.pending := by
  refine pending_goodCell s fun u => ?_
  split
  · rfl
  · exact hk u

theorem pending_takeMalformed (l : LinkId) : (takeMalformed l s).pending = s.pending :=
  pending_goodCell s fun _ => pending_settle _ l

/-! ## Consumer cells and the transmitters -/

theorem pending_takeAckTag (c : ConsumerIdx) (tag : Tag) : (takeAckTag c s tag).pending = s.pending := by
  unfold takeAckTag
  split
  · rw [pending_placeNotice]
    exact pending_freeRecord _ tag.index
  · rfl

theorem pending_grantRecord (k : ClassIdx) (c : ConsumerIdx) (r : RecIdx) (rest : List RecIdx) :
    (grantRecord k c r rest s).pending = s.pending := by rw [grantRecord_eq]

theorem pending_consumerSlot (c : ConsumerIdx) : (consumerSlot c s).pending = s.pending := by
  unfold consumerSlot
  split
  · rfl
  · split
    · exact pending_placeNotice _
    · split <;> rfl

theorem pending_deliverSent (c : ConsumerIdx) (d : Deliver) : (deliverSent c d s).pending = s.pending := by
  unfold deliverSent
  split
  · split <;> rfl
  all_goals rfl

theorem pending_finishRestart (job : RestartJob) : (finishRestart job s).pending = s.pending := by
  unfold finishRestart
  rw [pending_applyHold]
  dsimp only
  split <;> rfl

end

/-! ## Requests -/

/-- The operation leaves the queue. -/
def OpLeavesQueue (op : State → Answer) : Prop := ∀ s, (op s).state.pending = s.pending

theorem OpLeavesQueue.holderOnly {op : State → Answer} (ho : OpLeavesQueue op) (c : ConsumerIdx) :
    OpLeavesQueue (holderOnly c op) := fun s => by
  unfold Machine.holderOnly
  split
  · exact ho s
  · rfl

theorem pending_carryOut {op : State → Answer} (ho : OpLeavesQueue op) (c : ConsumerIdx) (seq : Byte) (s : State) :
    (carryOut c seq op s).pending = s.pending := by
  unfold carryOut
  dsimp only
  split
  · exact ho s
  · exact (pending_renewLease _ c).trans (ho s)

theorem pending_request {op : State → Answer} (ho : OpLeavesQueue op) (c : ConsumerIdx) (seq : Byte) (s : State) :
    (request c seq op s).pending = s.pending := by
  refine pending_passOn s fun u => ?_
  unfold intake
  split
  · rfl
  · split
    · exact pending_carryOut ho c seq u
    · split
      · exact pending_renewLease _ c
      · exact pending_carryOut ho c seq u

theorem opLeavesQueue_deny (x : Status) : OpLeavesQueue (deny x) := fun _ => rfl

theorem opLeavesQueue_claim (c : ConsumerIdx) : OpLeavesQueue (opClaim c) := fun s => by
  unfold opClaim
  dsimp only
  split
  · exact pending_placeNotice _
  · split <;> rfl

theorem opLeavesQueue_release : OpLeavesQueue opRelease := fun _ => rfl

theorem opLeavesQueue_read (table : Byte) (index : Half) (page : Byte) : OpLeavesQueue (opRead table index page) :=
  fun s => by
    unfold opRead
    split
    · rfl
    · split <;> rfl

theorem opLeavesQueue_writeDevice (index : Half) (page : Byte) (image : Page) :
    OpLeavesQueue (opWriteDevice index page image) := fun s => by
  unfold opWriteDevice
  split
  · split
    · rfl
    · split
      · rfl
      · exact (pending_placeNotice _).trans (pending_applyHold _)
  · rfl

theorem opLeavesQueue_writeSteering (which : Bank) (index : Half) (page : Byte) (image : Page) :
    OpLeavesQueue (opWriteSteering which index page image) := fun s => by
  unfold opWriteSteering
  split
  · split
    · rfl
    · split
      · rfl
      · split
        · rfl
        · cases which <;> rfl
  · rfl

theorem opLeavesQueue_writeClass (index : Half) (page : Byte) (image : Page) :
    OpLeavesQueue (opWriteClass index page image) := fun s => by
  unfold opWriteClass
  split
  · split
    · rfl
    · split
      · rfl
      · split <;> rfl
  · rfl

theorem opLeavesQueue_writeConsumer (index : Half) (page : Byte) (image : Page) :
    OpLeavesQueue (opWriteConsumer index page image) := fun s => by
  unfold opWriteConsumer
  split
  · split
    · rfl
    · split
      · rfl
      · split <;> rfl
  · rfl

theorem opLeavesQueue_write (table : Byte) (index : Half) (page : Byte) (image : Page) :
    OpLeavesQueue (opWrite table index page image) := fun s => by
  unfold opWrite
  split
  · rfl
  · split
    · exact opLeavesQueue_writeDevice index page image s
    · exact opLeavesQueue_writeSteering _ index page image s
    · exact opLeavesQueue_writeClass index page image s
    · exact opLeavesQueue_writeConsumer index page image s
    all_goals rfl

theorem opLeavesQueue_swap : OpLeavesQueue opSwap := fun s => by
  unfold opSwap
  split <;> rfl

theorem opLeavesQueue_classEnable (index : Half) : OpLeavesQueue (opClassEnable index) := fun s => by
  unfold opClassEnable
  split
  · unfold enableClass
    split
    · split <;> rfl
    · rfl
    · rfl
  · rfl

theorem opLeavesQueue_classDisable (index : Half) (flag : Byte) : OpLeavesQueue (opClassDisable index flag) := fun s => by
  have hc (k : ClassIdx) (purge : Bool) : (placeNotice (closeClass k purge s)).pending = s.pending :=
    (pending_placeNotice _).trans (pending_closeClass s k purge)
  unfold opClassDisable
  split
  · split
    · rfl
    · unfold disableClass
      split
      · rfl
      · exact hc _ _
      · split
        · exact hc _ _
        · rfl
  · rfl

theorem opLeavesQueue_consumerEnable (index : Half) : OpLeavesQueue (opConsumerEnable index) := fun s => by
  unfold opConsumerEnable
  split
  · unfold enableConsumer
    split <;> rfl
  · rfl

theorem opLeavesQueue_consumerDisable (index : Half) : OpLeavesQueue (opConsumerDisable index) := fun s => by
  unfold opConsumerDisable
  split
  · unfold disableConsumer
    split
    · rfl
    · exact (pending_placeNotice _).trans (pending_returnAll _ _)
  · rfl

theorem opLeavesQueue_setTime (value : Stamp) : OpLeavesQueue (opSetTime value) := fun _ => rfl

theorem opLeavesQueue_takeLog (index : Half) (page : Byte) : OpLeavesQueue (opTakeLog index page) := fun s => by
  unfold opTakeLog
  split
  · split
    · rfl
    · split
      · rfl
      · dsimp only [okay]
        split <;> rfl
  · rfl

theorem opLeavesQueue_clearCounts : OpLeavesQueue opClearCounts := fun _ => rfl

theorem opLeavesQueue_freeze : OpLeavesQueue opFreeze := fun _ => rfl

/-- A restart empties every block, but not the queue (log 9). -/
theorem opLeavesQueue_restart (c : ConsumerIdx) (seq flag : Byte) : OpLeavesQueue (opRestart c seq flag) := fun s => by
  unfold opRestart
  split
  · rfl
  · split
    · rfl
    · exact pending_catchUpAll s

/-! ## Every command -/

/-- The outcome is a next state, its queue that of `s`. -/
def LeavesQueue (s : State) (x : Result) : Prop := ∃ t, x = .next t ∧ t.pending = s.pending

theorem leavesQueue_next {s t : State} (h : t.pending = s.pending) : LeavesQueue s (.next t) := ⟨t, rfl, h⟩

section

variable (s : State)

theorem leavesQueue_execPor : LeavesQueue s (execPor s) := leavesQueue_next rfl

theorem leavesQueue_execResetRelease : LeavesQueue s (execResetRelease s) := by
  refine leavesQueue_next ?_
  split <;> rfl

theorem leavesQueue_execSignalPresent (l : LinkId) : LeavesQueue s (execSignalPresent l s) := by
  refine leavesQueue_next ?_
  split <;> rfl

theorem leavesQueue_execLossOfSignal (l : LinkId) : LeavesQueue s (execLossOfSignal l s) := by
  refine leavesQueue_next ?_
  split
  · rfl
  · rfl
  · exact pending_linkLeavesUp _ l

theorem leavesQueue_execGoodCellAligning (l : LinkId) : LeavesQueue s (execGoodCellAligning l s) := by
  refine leavesQueue_next ?_
  split
  · rfl
  · exact pending_goodAligning s l
  · rfl

theorem leavesQueue_execBadCell (l : LinkId) : LeavesQueue s (execBadCell l s) := by
  refine leavesQueue_next ?_
  split
  · rfl
  · rfl
  · exact pending_badCellUp s l

theorem leavesQueue_execMalformedCell (l : LinkId) : LeavesQueue s (execMalformedCell l s) :=
  leavesQueue_next (pending_takeMalformed s l)

theorem leavesQueue_execIdle (l : LinkId) : LeavesQueue s (execIdle l s) :=
  leavesQueue_next (pending_goodCell s fun u => pending_settle u l)

theorem leavesQueue_execEvent (n : Fin 4) (m : Fin 16) (ch : Fin 64) (kind : Kind) (datum : Half) :
    LeavesQueue s (execEvent n m ch kind datum s) := by
  refine leavesQueue_next ?_
  split
  · exact pending_passOn s fun u => pending_passEvent u _
  · exact pending_takeMalformed s _

theorem leavesQueue_execAck (c : Fin 6) (tags : List Tag) : LeavesQueue s (execAck c tags s) := by
  refine leavesQueue_next ?_
  split
  · exact pending_passOn s fun u => pending_foldl u (fun v => pending_takeAckTag v c) tags
  · exact pending_takeMalformed s _

theorem leavesQueue_execNackBusy (c : Fin 6) (tag : Tag) : LeavesQueue s (execNackBusy c tag s) := by
  refine leavesQueue_next (pending_passOn s fun u => ?_)
  split
  · exact (pending_placeNotice _).trans (pending_failure u c _ _ _)
  · rfl

theorem leavesQueue_execNackReject (c : Fin 6) (tag : Tag) : LeavesQueue s (execNackReject c tag s) := by
  refine leavesQueue_next (pending_passOn s fun u => ?_)
  split
  · exact (pending_placeNotice _).trans (pending_abandon _ tag.index .rejected)
  · rfl

theorem leavesQueue_execLoad (c : Fin 6) (level : Fin 16) : LeavesQueue s (execLoad c level s) :=
  leavesQueue_next (pending_passOn s fun _ => rfl)

theorem leavesQueue_execExpiry (r : Fin 512) : LeavesQueue s (execExpiry r s) := by
  refine leavesQueue_next ?_
  split
  · split
    · rw [pending_placeNotice]
      exact (pending_suspectCheck _ _).trans (pending_failure s _ _ r _)
    · rfl
  all_goals rfl

theorem leavesQueue_execGrant : LeavesQueue s (execGrant s) := by
  refine leavesQueue_next ?_
  split
  · rfl
  · split
    · rfl
    · exact pending_grantRecord s _ _ _ _

theorem leavesQueue_execCellSlot (l : LinkId) : LeavesQueue s (execCellSlot l s) := by
  refine leavesQueue_next ?_
  split
  · rfl
  · split
    · rfl
    · split
      · rfl
      · split
        · rfl
        · rfl
        · exact pending_consumerSlot s _

theorem leavesQueue_execSendCompletion (c : Fin 6) : LeavesQueue s (execSendCompletion c s) := by
  refine leavesQueue_next ?_
  split
  · rfl
  · rfl
  · split
    · exact pending_deliverSent _ c _
    all_goals rfl

theorem leavesQueue_execLeaseTimerExpiry : LeavesQueue s (execLeaseTimerExpiry s) := by
  refine leavesQueue_next ?_
  split
  · rfl
  · split <;> rfl

theorem leavesQueue_execEndOfRestart : LeavesQueue s (execEndOfRestart s) := by
  refine leavesQueue_next ?_
  split
  · rfl
  · exact pending_finishRestart s _

theorem leavesQueue_execTimebaseCount : LeavesQueue s (execTimebaseCount s) := by
  refine leavesQueue_next ?_
  split <;> rfl

/-- A request whose operation leaves the queue. -/
theorem leavesQueue_request {op : State → Answer} (ho : OpLeavesQueue op) (c : ConsumerIdx) (seq : Byte) :
    LeavesQueue s (.next (request c seq op s)) := leavesQueue_next (pending_request ho c seq s)

/-- The same for a request that needs the lease. -/
theorem leavesQueue_holder_request {op : State → Answer} (ho : OpLeavesQueue op) (c : ConsumerIdx) (seq : Byte) :
    LeavesQueue s (.next (request c seq (holderOnly c op) s)) := leavesQueue_request s (ho.holderOnly c) c seq

/-- Every command leaves the queue. -/
theorem exec_leavesQueue (i : Instr) : LeavesQueue s (exec i s) := by
  cases i with
  | por => exact leavesQueue_execPor s
  | resetRelease => exact leavesQueue_execResetRelease s
  | signalPresent l => exact leavesQueue_execSignalPresent s l
  | lossOfSignal l => exact leavesQueue_execLossOfSignal s l
  | goodCellAligning l => exact leavesQueue_execGoodCellAligning s l
  | badCell l => exact leavesQueue_execBadCell s l
  | malformedCell l => exact leavesQueue_execMalformedCell s l
  | idle l => exact leavesQueue_execIdle s l
  | event n m ch kind datum => exact leavesQueue_execEvent s n m ch kind datum
  | ack c tags => exact leavesQueue_execAck s c tags
  | nackBusy c tag => exact leavesQueue_execNackBusy s c tag
  | nackReject c tag => exact leavesQueue_execNackReject s c tag
  | load c level => exact leavesQueue_execLoad s c level
  | expiry r => exact leavesQueue_execExpiry s r
  | grant => exact leavesQueue_execGrant s
  | cellSlot l => exact leavesQueue_execCellSlot s l
  | sendCompletion c => exact leavesQueue_execSendCompletion s c
  | leaseTimerExpiry => exact leavesQueue_execLeaseTimerExpiry s
  | endOfRestart => exact leavesQueue_execEndOfRestart s
  | timebaseCount => exact leavesQueue_execTimebaseCount s
  | badOp c seq op => exact leavesQueue_request s (opLeavesQueue_deny _) c seq
  | claim c seq => exact leavesQueue_request s (opLeavesQueue_claim c) c seq
  | read c seq table index page => exact leavesQueue_request s (opLeavesQueue_read table index page) c seq
  | release c seq => exact leavesQueue_holder_request s opLeavesQueue_release c seq
  | write c seq table index page image =>
    exact leavesQueue_holder_request s (opLeavesQueue_write table index page image) c seq
  | writeDevice c seq index page image =>
    exact leavesQueue_holder_request s (opLeavesQueue_writeDevice index page image) c seq
  | writeSteering c seq which index page image =>
    exact leavesQueue_holder_request s (opLeavesQueue_writeSteering which index page image) c seq
  | writeClass c seq index page image =>
    exact leavesQueue_holder_request s (opLeavesQueue_writeClass index page image) c seq
  | writeConsumer c seq index page image =>
    exact leavesQueue_holder_request s (opLeavesQueue_writeConsumer index page image) c seq
  | swap c seq => exact leavesQueue_holder_request s opLeavesQueue_swap c seq
  | classEnable c seq index => exact leavesQueue_holder_request s (opLeavesQueue_classEnable index) c seq
  | classDisable c seq index flag => exact leavesQueue_holder_request s (opLeavesQueue_classDisable index flag) c seq
  | consumerEnable c seq index => exact leavesQueue_holder_request s (opLeavesQueue_consumerEnable index) c seq
  | consumerDisable c seq index => exact leavesQueue_holder_request s (opLeavesQueue_consumerDisable index) c seq
  | setTime c seq value => exact leavesQueue_holder_request s (opLeavesQueue_setTime value) c seq
  | takeLog c seq index page => exact leavesQueue_holder_request s (opLeavesQueue_takeLog index page) c seq
  | clearCounts c seq => exact leavesQueue_holder_request s opLeavesQueue_clearCounts c seq
  | freeze c seq => exact leavesQueue_holder_request s opLeavesQueue_freeze c seq
  | restart c seq flag => exact leavesQueue_holder_request s (opLeavesQueue_restart c seq flag) c seq

/-! ## A step -/

theorem step_front {s : State} {i : Instr} {rest : List Instr} (h : s.pending = i :: rest) :
    step s = exec i { s with pending := rest } := by
  unfold step
  rw [h]

theorem step_idle {s : State} (h : s.pending = []) : step s = .next s := by
  unfold step
  rw [h]

end

/-- Settles O1: the two forms of the queue. -/
theorem stepRunsFrontCommand : Obligations.StepRunsFrontCommand := ⟨fun _ _ _ => step_front, fun _ => step_idle⟩

/-- Settles O2, command by command. -/
theorem commandsAnswerNext : Obligations.CommandsAnswerNext := fun i s => exec_leavesQueue s i

end Sys2Proof.Machine
end
